-- ==== Sys2Proof/Word.lean ====
section
/-! DEFINITION. Word.lean: the data types of the engine's datapath (00_scope.md R8, 10_state.md R17).
Nothing here is signed; the engine's three operations on data (41_round_function.md R86) are `+` (modulo 2^32) and
`^^^` of `BitVec 32`, and the byte extraction and packing of Machine/Operands.lean. -/

namespace Sys2Proof

/-- A word: 32 bits, bit 0 the least significant (R8). -/
abbrev Word := BitVec 32

/-- A byte: 8 bits (R8). -/
abbrev Byte := BitVec 8

/-- A 64-bit block as its two halves, left and right (R15, glossary; R50). -/
structure Block where
  /-- the left half `L` -/
  L : Word
  /-- the right half `R` -/
  R : Word
deriving DecidableEq, Repr

/-- The permutation array `P`: 18 words (R18). -/
abbrev PArray := Vector Word 18

/-- The four substitution boxes `S`: 256 words each (R19). -/
abbrev SBoxes := Vector (Vector Word 256) 4

/-- The Cipher State: the pair (`P`, `S`) (R15, glossary). -/
structure CipherState where
  /-- the permutation array -/
  P : PArray
  /-- the substitution boxes -/
  S : SBoxes
deriving DecidableEq, Repr

/-- The key buffer `KEY`: 56 bytes (R24). -/
abbrev KeyBuffer := Vector Byte 56

end Sys2Proof
end

