-- ==== Sys2Proof/Syntax.lean ====
section
/-! DEFINITION. Syntax.lean: the engine's instructions, one constructor per row of spec/opcode_table.json. What the
checklist calls an instruction is a command that the host writes to `CMD` (00_scope.md R2). No command has an operand
field: all operands are implicit (30_encoding.md R60, R63). -/

namespace Sys2Proof

/-- The five commands (R61). -/
inductive Instr where
  /-- construct a cipher instance from the first `KEYLEN` bytes of the key buffer (R77) -/
  | keyexp
  /-- construct a cipher instance from all 56 bytes of the key buffer (R78) -/
  | keyexp56
  /-- encrypt the block in `DIN_L`, `DIN_R` (R97) -/
  | encrypt
  /-- decrypt the block in `DIN_L`, `DIN_R` (R98) -/
  | decrypt
  /-- end the instance and clear every data register (R105) -/
  | drop
deriving DecidableEq, Repr

/-- Every command, in the order of the opcode table. -/
def Instr.all : List Instr := [.keyexp, .keyexp56, .encrypt, .decrypt, .drop]

end Sys2Proof
end

