-- ==== Sys2Proof/WellFormed.lean ====
section
/-! DEFINITION. WellFormed.lean: what makes a command word and a port access well formed (30_encoding.md R60, R61;
10_state.md R20; 20_memory.md R53). A command has no operand field, so every `Instr` is well formed as it stands; the
checks are about the WORD a host writes and about the ACCESS that carries it. -/

namespace Sys2Proof

/-- Field `ZERO` of format `C`, bits 31:8, must be 0 (R60). -/
def zeroFieldClear (w : Word) : Bool := w.extractLsb' 8 24 == 0

/-- Field `OP` of format `C`, bits 7:0, must be one of `0x01` to `0x05` (R61, R65). -/
def opAssigned (w : Word) : Bool :=
  let op := (w.extractLsb' 0 8).toNat
  decide (1 ≤ op) && decide (op ≤ 5)

/-- A command word is well formed when both fields are (R61: it selects a command exactly when all 32 bits match). -/
def commandWordWellFormed (w : Word) : Bool := zeroFieldClear w && opAssigned w

/-- A command carries no operand, so no value of `Instr` is ill formed (R60, "A command word carries no register
field, no immediate and no mode bit"). -/
def Instr.wellFormed : Instr → Bool
  | .keyexp => true
  | .keyexp56 => true
  | .encrypt => true
  | .decrypt => true
  | .drop => true

/-- A register number the engine decodes: 0 to 31 (R20). -/
def registerNumberWellFormed (n : Nat) : Bool := decide (n ≤ 31)

end Sys2Proof
end

