-- ==== Sys2Proof/Decode.lean ====
section
/-! DEFINITION. Decode.lean: the decoder of a command word, total on all 2^32 words and rejecting by name
(30_encoding.md R60 to R62, R65, R66, R69), and the encoder, written from the same table. A command word is a 32-bit
register value and has no byte order (91_not_in_source.md N10). -/

namespace Sys2Proof

/-- Why a word is no command word (R65). -/
inductive IllegalWord where
  /-- a bit of field `ZERO` (31:8) is set -/
  | zeroFieldSet
  /-- `ZERO` is clear and `OP` is `0x00` or one of `0x06` to `0xFF` -/
  | opUnassigned
deriving DecidableEq, Repr

/-- What the decoder answers. -/
inductive Decoded where
  /-- the word selects this command -/
  | command (i : Instr)
  /-- the word is illegal: a `CMD` write of it raises `IllegalCommand` (R65) -/
  | illegal (why : IllegalWord)
deriving DecidableEq, Repr

/-- The command an operation code selects (R61). -/
def decodeOp (op : Byte) : Option Instr :=
  if op = 0x01#8 then some .keyexp
  else if op = 0x02#8 then some .keyexp56
  else if op = 0x03#8 then some .encrypt
  else if op = 0x04#8 then some .decrypt
  else if op = 0x05#8 then some .drop
  else none

/-- Field `OP`, bits 7:0 (R60). -/
def fieldOp (w : Word) : Byte := w.extractLsb' 0 8

/-- Field `ZERO`, bits 31:8 (R60). -/
def fieldZero (w : Word) : BitVec 24 := w.extractLsb' 8 24

/-- Decoding of a command word (R62: the test of `v[31:8]`, then `v[7:0]`). -/
def decode (w : Word) : Decoded :=
  if fieldZero w = 0#24 then
    match decodeOp (fieldOp w) with
    | some i => .command i
    | none => .illegal .opUnassigned
  else .illegal .zeroFieldSet

/-- The operation code of a command (R61, column `OP`). -/
def Instr.op : Instr → Byte
  | .keyexp => 0x01#8
  | .keyexp56 => 0x02#8
  | .encrypt => 0x03#8
  | .decrypt => 0x04#8
  | .drop => 0x05#8

/-- The command word of a command: `ZERO` clear, then `OP` (R60). -/
def encode (i : Instr) : Word := (0#24 : BitVec 24) ++ i.op

/-- The row of the opcode table whose pattern a word matches: find the row with `v and mask = match`, the mask being
all ones (R69). It is the decoder written from the table alone; `decode` agrees with it. -/
def decodeByTable (w : Word) : Option Instr :=
  Instr.all.find? (fun i => (w &&& 0xFFFFFFFF#32) == encode i)

/-- The command our decoder reads from an instruction whose bits are `w`, numbered as the opcode table numbers them;
bits at `nbits` and above are 0 (log entry 22). -/
def decodeTableWord (nbits w : Nat) : Option Instr :=
  match decode (BitVec.ofNat 32 (w % 2 ^ nbits)) with
  | .command i => some i
  | .illegal _ => none

end Sys2Proof
end

