-- ==== Sys2Proof/Config.lean ====
section
/-! DEFINITION. Config.lean: what the spec leaves open as a VALUE (93_implementation_defined.md U1, U2), as constants
without a body: no proof can see what they are. Each takes the number of the draw (`State.draws`), so that two draws
are unrelated. The parameters the document fixes (00_scope.md R6) are the literal widths and lengths of the types of
Word.lean and Machine/State.lean; the open parameters of R7 (`HOST_BINDING`, latencies, clock) are no part of the model. -/

namespace Sys2Proof

/-- A free word: the working block `L`, `R` between commands and after a reset event (U2; log entries 3 and 4). -/
opaque Config.freeWord : Nat → Word

/-- A free value of `SEQ.i` between commands and after a reset event (U2; log entries 3 and 4). -/
opaque Config.freeSeqI : Nat → Fin 1042

/-- A free value of `SEQ.t` between commands and after a reset event (U2; log entries 3 and 4). -/
opaque Config.freeSeqT : Nat → Fin 18

/-- Parameter `RESET_PS`, the `P` part: the contents of `P` after a reset event (U1, R39; log entry 3). -/
opaque Config.resetP : Nat → PArray

/-- Parameter `RESET_PS`, the `S` part: the contents of `S` after a reset event (U1, R39; log entry 3). -/
opaque Config.resetS : Nat → SBoxes

end Sys2Proof
end

