-- ==== Sys2Proof/Machine/State.lean ====
section
/-! DEFINITION. State.lean: the whole state of the engine (10_state.md R17), the model's own fields beside it, the two
reasons a step can stop, and the state right after reset (R38). -/

namespace Sys2Proof.Machine

/-- `ERR`: the outcome of the most recent command (R29). Exactly four values are ever produced (60_exceptions.md R113,
93_implementation_defined.md U11); the 3-bit code is `ErrCode.code` in Flags.lean. -/
inductive ErrCode where
  /-- 0: the command was accepted or was `DROP`, or no command since reset -/
  | none
  /-- 1: `KEYEXP` with `KEYLEN` outside 4 to 56 -/
  | invalidLength
  /-- 2: `ENCRYPT` or `DECRYPT` with `VALID = 0` -/
  | noCipher
  /-- 3: the word written to `CMD` is no command word -/
  | illegalCommand
deriving DecidableEq, Repr

/-- A key length the engine accepts: 4 to 56 bytes, both included (00_scope.md R6, 40_key_expansion.md R82). -/
structure KeyLength where
  /-- the number of bytes -/
  val : Nat
  /-- `KEYMIN` -/
  ge_four : 4 ≤ val
  /-- `KEYMAX` -/
  le_fiftySix : val ≤ 56
deriving DecidableEq, Repr

/-- `PENDING`: which timed command has been accepted (R30). -/
inductive Pending where
  /-- no command is pending -/
  | none
  /-- a key expansion over the first `n` bytes of `KEY` -/
  | kx (n : KeyLength)
  /-- an encryption -/
  | enc
  /-- a decryption -/
  | dec
deriving DecidableEq, Repr

/-- `SEQ.phase`: what the sequencer is doing (R31). -/
inductive Phase where
  /-- `IDLE` -/
  | idle
  /-- `KX_INIT`: writing the seed tables -/
  | kxInit
  /-- `KX_XOR`: mixing the key into `P` -/
  | kxXor
  /-- `KX_GEN`: the 521 generating encryptions -/
  | kxGen
  /-- `BLK`: one block transform -/
  | blk
deriving DecidableEq, Repr

/-- One turn of one of the three agents (00_scope.md R13). -/
inductive Turn where
  /-- the host: `HostRead(n)` -/
  | hostRead (n : Nat)
  /-- the host: `HostWrite(n, v)` -/
  | hostWrite (n : Nat) (v : Word)
  /-- the host: an access at register `n` that is not one whole aligned 32-bit register (20_memory.md R53) -/
  | partialAccess (n : Nat)
  /-- the engine: `Complete` if it is enabled (43_lifecycle_and_host_access.md R107) -/
  | engine
  /-- the reset event (70_reset_and_hazards.md R125) -/
  | reset
deriving DecidableEq, Repr

/-- The complete state of the engine (R17), and three fields of the model's own at the end. -/
structure State where
  /-- `P`, the permutation array (R18) -/
  P : PArray
  /-- `S`, the substitution boxes (R19) -/
  S : SBoxes
  /-- `VALID`: a cipher instance exists (R27) -/
  valid : Bool
  /-- `BUSY`: a timed command is pending (R28) -/
  busy : Bool
  /-- `ERR` (R29) -/
  err : ErrCode
  /-- `PENDING` (R30) -/
  pending : Pending
  /-- the key buffer `KEY` (R24) -/
  key : KeyBuffer
  /-- `KEYLEN`: the key length in bytes, any 32-bit value (R23) -/
  keylen : Word
  /-- `DIN_L` (R25) -/
  dinL : Word
  /-- `DIN_R` (R25) -/
  dinR : Word
  /-- `DOUT_L` (R26) -/
  doutL : Word
  /-- `DOUT_R` (R26) -/
  doutR : Word
  /-- `SEQ.phase` (R31) -/
  seqPhase : Phase
  /-- `SEQ.i`, 0 to 1041 (R31) -/
  seqI : Fin 1042
  /-- `SEQ.t`, 0 to 17 (R31) -/
  seqT : Fin 18
  /-- the working block, left half `L` (R32) -/
  workL : Word
  /-- the working block, right half `R` (R32) -/
  workR : Word
  /-- the model's own: how many free values have been drawn (U1, U2; log entry 5) -/
  draws : Nat
  /-- the model's own: the turns still to come, in the agents' one total order (R13, R37, R55; log entry 6) -/
  inputs : List Turn
  /-- the model's own: what the host has read, newest first, as register number and word (R108; log entry 7) -/
  hostLog : List (Nat × Word)
deriving DecidableEq, Repr

/-- A step never faults: "Nothing in the engine is `fault` or `stuck`" (93_implementation_defined.md, end of part 1;
60_exceptions.md R117). The type has no constructor (log entry 20). -/
inductive Fault where
deriving DecidableEq, Repr

/-- Why a step has no meaning. All three are safe: the model stops where it does not know what the platform does. -/
inductive Refusal where
  /-- raised by `exec` for an instruction that has no meaning yet (none in this model); safe -/
  | notModelled (mnemonic : String)
  /-- raised by a host access at a register number above 31: "a model refuses it" (R20, U7; log entry 11); safe -/
  | registerNotDecoded (n : Nat)
  /-- raised by an access that is not one whole register: the model "refuses anything else" (R53, U8; log entry 11);
  safe -/
  | accessNotWholeRegister (n : Nat)
deriving DecidableEq, Repr

/-- The outcome of a step of this machine. -/
abbrev Outcome := Host.Outcome State Fault Refusal

/-- The machine right after reset (R38). `P`, `S`, `SEQ.i`, `SEQ.t` and the working block have no reset value in the
spec; the zeros here are DESIGN CHOICE (log entries 1 and 2). No turn is listed: "the engine does nothing until the host
writes `CMD`". -/
def State.reset : State where
  P := Vector.replicate 18 0#32
  S := Vector.replicate 4 (Vector.replicate 256 0#32)
  valid := false
  busy := false
  err := .none
  pending := .none
  key := Vector.replicate 56 0#8
  keylen := 0#32
  dinL := 0#32
  dinR := 0#32
  doutL := 0#32
  doutR := 0#32
  seqPhase := .idle
  seqI := 0
  seqT := 0
  workL := 0#32
  workR := 0#32
  draws := 0
  inputs := []
  hostLog := []

end Sys2Proof.Machine
end

