-- ==== Sys2Proof/Machine/Operands.lean ====
section
/-! DEFINITION. Operands.lean: how operands are assembled (30_encoding.md R64). No operand comes from command bits; the
assemblies are between byte sequences and words, and all are big-endian (20_memory.md R48 to R51). Also the registers of
the port, by number (10_state.md R20). -/

namespace Sys2Proof.Machine

/-! ### Bytes and words -/

/-- `be32(b0, b1, b2, b3)`: the word `b0 << 24 + b1 << 16 + b2 << 8 + b3`, first byte most significant (R9, R48). -/
def be32 (b0 b1 b2 b3 : Byte) : Word :=
  (b0.setWidth 32 <<< 24) + (b1.setWidth 32 <<< 16) + (b2.setWidth 32 <<< 8) + b3.setWidth 32

/-- `byte_k(x)`, most significant byte first: `byte_0` is bits 31:24, `byte_3` bits 7:0 (R9, R49). -/
def byteOf (k : Fin 4) (x : Word) : Byte := x.extractLsb' (24 - 8 * k.val) 8

/-- A block of 8 bytes as its halves, big-endian, left half first (R50). -/
def blockOfBytes (b : Vector Byte 8) : Block := ⟨be32 b[0] b[1] b[2] b[3], be32 b[4] b[5] b[6] b[7]⟩

/-- The 8 bytes of a block, the same mapping the other way (R50, R101). -/
def bytesOfBlock (b : Block) : Vector Byte 8 :=
  #v[byteOf 0 b.L, byteOf 1 b.L, byteOf 2 b.L, byteOf 3 b.L, byteOf 0 b.R, byteOf 1 b.R, byteOf 2 b.R, byteOf 3 b.R]

/-! ### The key, read cyclically -/

/-- Byte `k mod n` of the key: the cyclic addressing mode `KEY[(4i + j) mod n]` (R46, R52, R135). -/
def keyByte (key : KeyBuffer) (n : KeyLength) (k : Nat) : Byte :=
  key[k % n.val]'(Nat.lt_of_lt_of_le (Nat.mod_lt k (Nat.lt_of_lt_of_le (by decide) n.ge_four)) n.le_fiftySix)

/-- `KeyWord(key, n, i)`: word `i` of the endlessly repeated key (R70). -/
def keyWord (key : KeyBuffer) (n : KeyLength) (i : Nat) : Word :=
  be32 (keyByte key n (4 * i)) (keyByte key n (4 * i + 1)) (keyByte key n (4 * i + 2)) (keyByte key n (4 * i + 3))

/-- The four bytes of one word read at the position `pos`, and the position after them: it returns to 0 "tested after every
single byte" (R70, the form with a read position). -/
def readKeyWord (key : KeyBuffer) (n : KeyLength) (pos : Nat) : Word × Nat :=
  (List.range 4).foldl
    (fun x _ => ((x.1 <<< 8) + (keyByte key n x.2).setWidth 32, if x.2 + 1 = n.val then 0 else x.2 + 1)) (0#32, pos)

/-- The first `k` words of the key stream read from the position `pos` on (R70, the form with a read position). -/
def keyWordsFrom (key : KeyBuffer) (n : KeyLength) : Nat → Nat → List Word
  | 0, _ => []
  | k + 1, pos => (readKeyWord key n pos).1 :: keyWordsFrom key n k (readKeyWord key n pos).2

/-- The key length `KEYEXP` reads from `KEYLEN`: the unsigned test `4 <= n <= 56` (R77, R82). -/
def acceptedLength (keylen : Word) : Option KeyLength :=
  if h : 4 ≤ keylen.toNat ∧ keylen.toNat ≤ 56 then some ⟨keylen.toNat, h.1, h.2⟩ else none

/-- The length of `KEYEXP56`: all 56 bytes (R78). -/
def fullLength : KeyLength := ⟨56, by decide, by decide⟩

/-! ### The registers of the port -/

/-- A register of the port by its name (R20). -/
inductive Reg where
  /-- 0, write only -/
  | cmd
  /-- 1, read only -/
  | status
  /-- 2 -/
  | keylen
  /-- 4 -/
  | dinL
  /-- 5 -/
  | dinR
  /-- 6, read only -/
  | doutL
  /-- 7, read only -/
  | doutR
  /-- `8 + j`, write only -/
  | keyw (j : Fin 14)
  /-- 3 and 22 to 31: read 0, writes ignored -/
  | reserved
deriving DecidableEq, Repr

/-- The register a number selects; none above 31, which the engine does not decode (R20). -/
def regOfNumber (n : Nat) : Option Reg :=
  if n = 0 then some .cmd
  else if n = 1 then some .status
  else if n = 2 then some .keylen
  else if n = 3 then some .reserved
  else if n = 4 then some .dinL
  else if n = 5 then some .dinR
  else if n = 6 then some .doutL
  else if n = 7 then some .doutR
  else if n < 22 then some (.keyw (Fin.ofNat 14 (n - 8)))
  else if n < 32 then some .reserved
  else none

end Sys2Proof.Machine
end

