-- ==== Sys2Proof/Machine/Ops.lean ====
section
/-! DEFINITION. Ops.lean: the named operations over the tables, the key buffer and the registers that the meanings share
(00_scope.md R10 to R12, 20_memory.md R44 to R46). Each is one line of the spec's pseudocode or one named action. -/

namespace Sys2Proof.Machine

/-! ### Table memories: `MemRead` and `MemWrite` on `P` and `S` -/

/-- `P[i]` (R44). -/
def readP (P : PArray) (i : Fin 18) : Word := P[i.val]

/-- `P[i] <- v` (R44). -/
def writeP (P : PArray) (i : Fin 18) (v : Word) : PArray := P.set i.val v

/-- `S[b][j]` (R45). -/
def readS (S : SBoxes) (b : Fin 4) (j : Fin 256) : Word := (S[b.val])[j.val]

/-- `S[b][j] <- v` (R45). -/
def writeS (S : SBoxes) (b : Fin 4) (j : Fin 256) (v : Word) : SBoxes := S.set b.val ((S[b.val]).set j.val v)

/-! ### Refusal: the engine's only exception -/

/-- `raise E`: `ERR <- code(E)` and nothing else; `BUSY` stays 0 and control goes nowhere (R12, 60_exceptions.md R120).
There is no return from it (R121). -/
def raise (e : ErrCode) (s : State) : State := { s with err := e }

/-! ### Acceptance of a timed command -/

/-- Where the sequencer stands at acceptance. `BLK`: R102, with the input block in the working block. `KX_INIT`: R79
starts there with `SEQ.i = 0`; that this happens at acceptance is DEDUCED from R31, "`SEQ.phase = IDLE` exactly when
`BUSY = 0`" (log entry 13). -/
def startSequencer (p : Pending) (s : State) : State :=
  match p with
  | .none => s
  | .kx _ => { s with seqPhase := .kxInit, seqI := 0 }
  | .enc => { s with seqPhase := .blk, seqT := 0, workL := s.dinL, workR := s.dinR }
  | .dec => { s with seqPhase := .blk, seqT := 0, workL := s.dinL, workR := s.dinR }

/-- Acceptance: `ERR <- 0; PENDING <- p; BUSY <- 1` (30_encoding.md R62). -/
def accept (p : Pending) (s : State) : State :=
  startSequencer p { s with err := .none, pending := p, busy := true }

/-- The old instance ends at the acceptance of a key expansion: `VALID <- 0` (R27, R77). -/
def endInstance (s : State) : State := { s with valid := false }

/-! ### Clearing -/

/-- `Destroy`: `VALID <- 0` and all of `P` and `S` zeroed (43_lifecycle_and_host_access.md R104). -/
def destroy (s : State) : State :=
  { s with valid := false, P := Vector.replicate 18 0#32, S := Vector.replicate 4 (Vector.replicate 256 0#32) }

/-- `KEY[0..55] <- 0x00; KEYLEN <- 0` (R83, R105). -/
def clearKey (s : State) : State := { s with key := Vector.replicate 56 0#8, keylen := 0#32 }

/-- `DIN_L <- 0; DIN_R <- 0; DOUT_L <- 0; DOUT_R <- 0` (R105). -/
def clearBlocks (s : State) : State := { s with dinL := 0#32, dinR := 0#32, doutL := 0#32, doutR := 0#32 }

/-! ### The results of a completion -/

/-- A new instance: `(P, S) <- c; VALID <- 1` (R107). -/
def installInstance (c : CipherState) (s : State) : State := { s with P := c.P, S := c.S, valid := true }

/-- `(DOUT_L, DOUT_R) <- b` (R97, R98). -/
def deliver (b : Block) (s : State) : State := { s with doutL := b.L, doutR := b.R }

/-- The input block `(DIN_L, DIN_R)` (R25). -/
def State.inputBlock (s : State) : Block := ⟨s.dinL, s.dinR⟩

/-- The output block `(DOUT_L, DOUT_R)` (R26). -/
def State.outputBlock (s : State) : Block := ⟨s.doutL, s.doutR⟩

/-- `SEQ.i`, `SEQ.t` and the working block become free values (R31, R32, U2; log entries 3 and 4). -/
def releaseScratch (s : State) : State :=
  { s with
    seqI := Config.freeSeqI s.draws
    seqT := Config.freeSeqT s.draws
    workL := Config.freeWord s.draws
    workR := Config.freeWord (s.draws + 1)
    draws := s.draws + 2 }

/-- The end of a timed command: `PENDING <- NONE; BUSY <- 0` (R107), and the sequencer is idle (R31). -/
def finish (s : State) : State := { releaseScratch s with pending := .none, busy := false, seqPhase := .idle }

/-! ### Register writes of the host -/

/-- A write of `v` to `KEYLEN` (R23). -/
def setKeylen (v : Word) (s : State) : State := { s with keylen := v }

/-- A write of `v` to `DIN_L` (R25). -/
def setDinL (v : Word) (s : State) : State := { s with dinL := v }

/-- A write of `v` to `DIN_R` (R25). -/
def setDinR (v : Word) (s : State) : State := { s with dinR := v }

/-- A write of `v` to `KEYWj`: four key bytes, the first from bits 31:24 (R24, R51). -/
def writeKeyWord (j : Fin 14) (v : Word) (s : State) : State :=
  { s with
    key := (((s.key.set (4 * j.val) (byteOf 0 v)).set (4 * j.val + 1) (byteOf 1 v)).set (4 * j.val + 2)
      (byteOf 2 v)).set (4 * j.val + 3) (byteOf 3 v) }

/-- The host notes the word it read: the model's own bookkeeping, no engine state (log entry 7). -/
def logRead (n : Nat) (v : Word) (s : State) : State := { s with hostLog := (n, v) :: s.hostLog }

/-- The turns still to come are `us`: the model's own bookkeeping (log entry 6). -/
def setInputs (us : List Turn) (s : State) : State := { s with inputs := us }

/-- The host's log is `log`: the model's own bookkeeping (log entry 7). -/
def setLog (log : List (Nat × Word)) (s : State) : State := { s with hostLog := log }

/-! ### The reset event -/

/-- Reset (70_reset_and_hazards.md R125): every piece of state at its reset value of R38; `P`, `S`, the working block,
`SEQ.i` and `SEQ.t` become free values (U1, U2; log entry 3). The turns to come and the host's log are not the
engine's. -/
def resetEngine (s : State) : State :=
  releaseScratch
    { State.reset with
      P := Config.resetP s.draws, S := Config.resetS s.draws
      draws := s.draws + 1, inputs := s.inputs, hostLog := s.hostLog }

end Sys2Proof.Machine
end

