-- ==== Sys2Proof/Machine/RoundFunction.lean ====
section
/-! DEFINITION. RoundFunction.lean: the lookup and mixing datapath (41_round_function.md). It only reads the tables
(R88) and is total (R14, R84). -/

namespace Sys2Proof.Machine

/-- The lookup `S[b][byte_b(x)]`: box `b` is indexed by byte `b` of the word (R45, R49, R135). -/
def lookup (S : SBoxes) (b : Fin 4) (x : Word) : Word := readS S b (byteOf b x).toFin

/-- The round function: `((S[0][b0] +32 S[1][b1]) xor S[2][b2]) +32 S[3][b3]`, in this order (R84, R85). -/
def F (S : SBoxes) (x : Word) : Word := ((lookup S 0 x + lookup S 1 x) ^^^ lookup S 2 x) + lookup S 3 x

/-- P-box mixing, `h <- h xor P[i]` (R87). -/
def mixP (P : PArray) (i : Fin 18) (h : Word) : Word := h ^^^ readP P i

end Sys2Proof.Machine
end

