-- ==== Sys2Proof/Machine/BlockTransform.lean ====
section
/-! DEFINITION. BlockTransform.lean: the 16-round Feistel unit (42_block_transform.md): the pure functions
`EncryptBlock` and `DecryptBlock`, the same as 18 steps, and the commands `ENCRYPT` and `DECRYPT`. -/

namespace Sys2Proof.Machine

/-- The four lines of one iteration with the index pair `(k, k')`: `L <- L xor P[k]; R <- R xor F(S, L);
R <- R xor P[k']; L <- L xor F(S, R)` (R91, R93). -/
def iteration (P : PArray) (S : SBoxes) (k k' : Fin 18) (b : Block) : Block :=
  let L := mixP P k b.L
  let R := b.R ^^^ F S L
  let R := mixP P k' R
  let L := L ^^^ F S R
  ⟨L, R⟩

/-- The last mixing with the index pair `(k, k')` and the output swap: the result is (final `R`, final `L`)
(R91, R92, R93). -/
def finalSwap (P : PArray) (k k' : Fin 18) (b : Block) : Block := ⟨mixP P k' b.R, mixP P k b.L⟩

/-- `EncryptBlock`: iterations `i = 0..7` with the pair `(2i, 2i+1)`, then `P[16]`, `P[17]` (R91). -/
def encryptBlock (P : PArray) (S : SBoxes) (b : Block) : Block :=
  finalSwap P 16 17 <|
    (List.finRange 8).foldl
      (fun b i => iteration P S ⟨2 * i.val, by omega⟩ ⟨2 * i.val + 1, by omega⟩ b) b

/-- `DecryptBlock`: iterations `i = 8 downto 1` with the pair `(2i+1, 2i)`, then `P[1]`, `P[0]` (R93). The index
`m = 0..7` of the fold stands for the iteration `i = 8 - m`. -/
def decryptBlock (P : PArray) (S : SBoxes) (b : Block) : Block :=
  finalSwap P 1 0 <|
    (List.finRange 8).foldl
      (fun b m => iteration P S ⟨2 * (8 - m.val) + 1, by omega⟩ ⟨2 * (8 - m.val), by omega⟩ b) b

/-! ### The same as a sequence of 18 steps -/

/-- The direction of a transform (R96). -/
inductive Direction where
  /-- `ENC` -/
  | enc
  /-- `DEC` -/
  | dec
deriving DecidableEq, Repr

/-- The `P` index of step `t`: `k(t) = t` for `ENC`, `17 - t` for `DEC` (R96). -/
def stepIndex : Direction → Fin 18 → Fin 18
  | .enc, t => t
  | .dec, t => t.rev

/-- Step `t` on the working block: a Feistel round for `t` up to 15, the final mixing at 16, the output swap at 17
(R96). -/
def feistelStep (P : PArray) (S : SBoxes) (dir : Direction) (t : Fin 18) (b : Block) : Block :=
  if t.val < 16 then
    if t.val % 2 = 0 then
      let L := mixP P (stepIndex dir t) b.L
      ⟨L, b.R ^^^ F S L⟩
    else
      let R := mixP P (stepIndex dir t) b.R
      ⟨b.L ^^^ F S R, R⟩
  else if t.val = 16 then ⟨mixP P (stepIndex dir 16) b.L, mixP P (stepIndex dir 17) b.R⟩
  else ⟨b.R, b.L⟩

/-- The 18 steps in order (R96). -/
def transformBySteps (P : PArray) (S : SBoxes) (dir : Direction) (b : Block) : Block :=
  (List.finRange 18).foldl (fun b t => feistelStep P S dir t b) b

/-! ### The commands -/

/-- The test and the acceptance that `ENCRYPT` and `DECRYPT` share: `NoCipher` when `VALID = 0`, else accepted
(R97, R98, 60_exceptions.md R115). -/
def startTransform (p : Pending) (s : State) : State := if s.valid then accept p s else raise .noCipher s

/-- `ENCRYPT` at the `CMD` write (R97). Its result comes with `Complete`. -/
def execEncrypt (s : State) : Outcome := .next (startTransform .enc s)

/-- `DECRYPT` at the `CMD` write (R98). Its result comes with `Complete`. -/
def execDecrypt (s : State) : Outcome := .next (startTransform .dec s)

end Sys2Proof.Machine
end

