-- ==== Sys2Proof/Machine/KeyExpansion.lean ====
section
/-! DEFINITION. KeyExpansion.lean: the key-expansion scheduler (40_key_expansion.md): the function `ExpandKey`, steps 1 to
5 in this order and no other (R72), and the commands `KEYEXP` and `KEYEXP56`. -/

namespace Sys2Proof.Machine

/-- Step 2: `P[i] <- P[i] xor KeyWord(key, n, i)` for `i` = 0 to 17 (R74). -/
def mixKey (key : KeyBuffer) (n : KeyLength) (P : PArray) : PArray :=
  (List.finRange 18).foldl (fun P i => writeP P i (readP P i ^^^ keyWord key n i.val)) P

/-- The tables together with the running block of steps 3 to 5 (R75, R76). -/
structure Schedule where
  /-- the tables as they are now -/
  tables : CipherState
  /-- the running block -/
  run : Block
deriving DecidableEq, Repr

/-- `P[2i] <- L; P[2i+1] <- R` (R75). -/
def writeBackP (i : Fin 9) (b : Block) (c : CipherState) : CipherState :=
  { c with P := writeP (writeP c.P ⟨2 * i.val, by omega⟩ b.L) ⟨2 * i.val + 1, by omega⟩ b.R }

/-- `S[b][2j] <- L; S[b][2j+1] <- R` (R76). -/
def writeBackS (box : Fin 4) (j : Fin 128) (b : Block) (c : CipherState) : CipherState :=
  { c with S := writeS (writeS c.S box ⟨2 * j.val, by omega⟩ b.L) box ⟨2 * j.val + 1, by omega⟩ b.R }

/-- One generating encryption: encrypt the running block under the tables as they are now, then write it back
(R57, R75, R76). -/
def generate (writeBack : Block → CipherState → CipherState) (x : Schedule) : Schedule :=
  let b := encryptBlock x.tables.P x.tables.S x.run
  ⟨writeBack b x.tables, b⟩

/-- Steps 1 to 3: the seed tables, the key mixed in, and the zero block (R73, R74, R75). -/
def initialSchedule (key : KeyBuffer) (n : KeyLength) : Schedule := ⟨⟨mixKey key n pInit, sInit⟩, ⟨0#32, 0#32⟩⟩

/-- Step 4: nine encryptions regenerate `P` (R75). -/
def regenerateP (x : Schedule) : Schedule := (List.finRange 9).foldl (fun x i => generate (writeBackP i) x) x

/-- Step 5, one box: 128 encryptions (R76). -/
def regenerateBox (box : Fin 4) (x : Schedule) : Schedule :=
  (List.finRange 128).foldl (fun x j => generate (writeBackS box j) x) x

/-- Step 5: the boxes in order (R76). -/
def regenerateS (x : Schedule) : Schedule := (List.finRange 4).foldl (fun x box => regenerateBox box x) x

/-- `ExpandKey(key, n)` (R72). It does not see what the tables held before (R73). -/
def expandKey (key : KeyBuffer) (n : KeyLength) : CipherState :=
  (regenerateS (regenerateP (initialSchedule key n))).tables

/-! ### The commands -/

/-- Acceptance of a key expansion over `n` bytes: the old instance ends, then the command is accepted (R77, R78). -/
def startExpansion (n : KeyLength) (s : State) : State := accept (.kx n) (endInstance s)

/-- `KEYEXP` at the `CMD` write: the length test, then `Destroy` and `InvalidLength`, or acceptance (R77, R82,
60_exceptions.md R114). Its result comes with `Complete`. -/
def execKeyexp (s : State) : Outcome :=
  match acceptedLength s.keylen with
  | some n => .next (startExpansion n s)
  | none => .next (raise .invalidLength (destroy s))

/-- `KEYEXP56` at the `CMD` write: accepted whatever `KEYLEN` holds (R78). Its result comes with `Complete`. -/
def execKeyexp56 (s : State) : Outcome := .next (startExpansion fullLength s)

end Sys2Proof.Machine
end

