-- ==== Sys2Proof/Machine/Lifecycle.lean ====
section
/-! DEFINITION. Lifecycle.lean: the command `DROP` and the engine step `Complete` (43_lifecycle_and_host_access.md R104,
R105, R107). -/

namespace Sys2Proof.Machine

/-- `DROP`: `Destroy`, the key buffer, `KEYLEN` and the block registers zeroed, `ERR <- 0`; at once and never refused
(R105). -/
def execDrop (s : State) : Outcome := .next (raise .none (clearBlocks (clearKey (destroy s))))

/-- The effect of the pending command (R107). -/
def applyPending (s : State) : State :=
  match s.pending with
  | .none => s
  | .kx n => clearKey (installInstance (expandKey s.key n) s)
  | .enc => deliver (encryptBlock s.P s.S s.inputBlock) s
  | .dec => deliver (decryptBlock s.P s.S s.inputBlock) s

/-- `Complete`, the engine's only step, enabled exactly when `BUSY = 1`; it is atomic, never fails and leaves `ERR` alone
(R107). A turn of the engine while `BUSY = 0` does nothing (log entry 9). -/
def complete (s : State) : State := if s.busy then finish (applyPending s) else s

end Sys2Proof.Machine
end

