-- ==== Sys2Proof/Machine/Dispatch.lean ====
section
/-! DEFINITION. Dispatch.lean: the case of 30_encoding.md R62, one arm per command. It is the effect of a `CMD` write of the
command's word while `BUSY = 0`: the test of `BUSY` stands before it, in `hostWrite` (log entry 15). -/

namespace Sys2Proof.Machine

def exec (i : Instr) (s : State) : Host.Outcome State Fault Refusal :=
  match i with
  | .keyexp => Sys2Proof.Machine.execKeyexp s
  | .keyexp56 => Sys2Proof.Machine.execKeyexp56 s
  | .encrypt => Sys2Proof.Machine.execEncrypt s
  | .decrypt => Sys2Proof.Machine.execDecrypt s
  | .drop => Sys2Proof.Machine.execDrop s

end Sys2Proof.Machine
end

