-- ==== Sys2Proof/Machine/Flags.lean ====
section
/-! DEFINITION. Flags.lean: the flags as the host sees them, the `STATUS` word (10_state.md R22), and the lifecycle they
encode (R36). The engine has no arithmetic flag (41_round_function.md R84, R86). -/

namespace Sys2Proof.Machine

/-- The 3-bit code of an outcome (60_exceptions.md R113). Codes 4 to 7 are never produced. -/
def ErrCode.code : ErrCode → BitVec 3
  | .none => 0#3
  | .invalidLength => 1#3
  | .noCipher => 2#3
  | .illegalCommand => 3#3

/-- The word a read of `STATUS` returns: `zext_32(ERR) << 8 + zext_32(VALID) << 1 + zext_32(BUSY)` (R22). -/
def State.status (s : State) : Word :=
  (s.err.code.setWidth 32 <<< 8) + ((BitVec.ofBool s.valid).setWidth 32 <<< 1) + (BitVec.ofBool s.busy).setWidth 32

/-- The four lifecycle states (R36). -/
inductive Lifecycle where
  /-- no instance, nothing pending -/
  | empty
  /-- a key expansion is pending -/
  | expanding
  /-- an instance exists, nothing pending -/
  | ready
  /-- a block transform is pending -/
  | transforming
deriving DecidableEq, Repr

/-- The lifecycle state the two flags tell (R36, columns `BUSY` and `VALID`). -/
def State.lifecycle (s : State) : Lifecycle :=
  match s.busy, s.valid with
  | false, false => .empty
  | true, false => .expanding
  | false, true => .ready
  | true, true => .transforming

end Sys2Proof.Machine
end

