-- ==== Sys2Proof/Machine/Port.lean ====
section
/-! DEFINITION. Port.lean: the host's reads and writes of the 32 registers (43_lifecycle_and_host_access.md R108, R109) and
what a write to `CMD` does (30_encoding.md R62). -/

namespace Sys2Proof.Machine

/-- The word a read of a register returns (R108): write-only and reserved registers read 0. -/
def readReg (s : State) : Reg → Word
  | .cmd => 0#32
  | .status => s.status
  | .keylen => s.keylen
  | .dinL => s.dinL
  | .dinR => s.dinR
  | .doutL => s.doutL
  | .doutR => s.doutR
  | .keyw _ => 0#32
  | .reserved => 0#32

/-- `HostRead(n)`: returns a word and changes no state of the engine, also while `BUSY = 1`; the host notes the word
(R108). A number above 31 is refused (R20, U7). -/
def hostRead (n : Nat) (s : State) : Outcome :=
  match regOfNumber n with
  | some r => .next (logRead n (readReg s r) s)
  | none => .refused (.registerNotDecoded n)

/-- A write of `v` to `CMD` while `BUSY = 0`: a command, or `IllegalCommand` (R62, 60_exceptions.md R116, R119). -/
def commandWrite (v : Word) (s : State) : Outcome :=
  match decode v with
  | .command i => exec i s
  | .illegal _ => .next (raise .illegalCommand s)

/-- A write of `v` to a register while `BUSY = 0` (R109): read-only and reserved registers ignore it. -/
def writeReg (r : Reg) (v : Word) (s : State) : Outcome :=
  match r with
  | .cmd => commandWrite v s
  | .status => .next s
  | .keylen => .next (setKeylen v s)
  | .dinL => .next (setDinL v s)
  | .dinR => .next (setDinR v s)
  | .doutL => .next s
  | .doutR => .next s
  | .keyw j => .next (writeKeyWord j v s)
  | .reserved => .next s

/-- `HostWrite(n, v)` (R109): discarded while `BUSY = 1`, whatever the register. A number above 31 is refused
(R20, U7). -/
def hostWrite (n : Nat) (v : Word) (s : State) : Outcome :=
  match regOfNumber n with
  | some r => if s.busy then .next s else writeReg r v s
  | none => .refused (.registerNotDecoded n)

end Sys2Proof.Machine
end

