-- ==== Sys2Proof/Machine/Sequencer.lean ====
section
/-! DEFINITION. Sequencer.lean: the refinement of `Complete` into the micro-steps of `SEQ` and the working block
(40_key_expansion.md R79, 42_block_transform.md R102). The normative machine takes `Complete` as one step
(92_eei_decisions.md D20); the machine of `fineStep` in Step.lean takes these. The write-back of a transform, and all that
follows `SEQ.t = 17`, belongs to the micro-step of `SEQ.t = 17`: `SEQ.t` has no value 18 (DEDUCED, log entry 14). -/

namespace Sys2Proof.Machine

/-- The working block as a block (R32). -/
def State.workBlock (s : State) : Block := ⟨s.workL, s.workR⟩

/-- `(L, R) <- b`. -/
def setWork (b : Block) (s : State) : State := { s with workL := b.L, workR := b.R }

/-- The tables as a pair. -/
def State.tables (s : State) : CipherState := ⟨s.P, s.S⟩

/-- `(P, S) <- c`. -/
def setTables (c : CipherState) (s : State) : State := { s with P := c.P, S := c.S }

/-- The next value of `SEQ.i`; it stays in 0 to 1041 (R31). -/
def nextI (i : Fin 1042) : Fin 1042 := Fin.ofNat 1042 (i.val + 1)

/-- The next value of `SEQ.t`; it stays in 0 to 17 (R31). -/
def nextT (t : Fin 18) : Fin 18 := Fin.ofNat 18 (t.val + 1)

/-- The key length of the pending key expansion; 56 when none is pending, which no micro-step reads in a state that a
run reaches (R30). -/
def Pending.keyLength : Pending → KeyLength
  | .kx n => n
  | .none => fullLength
  | .enc => fullLength
  | .dec => fullLength

/-- The direction of the pending block transform; encryption when none is pending (R30, R102). -/
def Pending.direction : Pending → Direction
  | .dec => .dec
  | .enc => .enc
  | .kx _ => .enc
  | .none => .enc

/-- Word number `i` of the 1042 seed words is written to its place (R73, R79): `P` first, then the four boxes. -/
def writeSeed (i : Fin 1042) (c : CipherState) : CipherState :=
  if h : i.val < 18 then { c with P := writeP c.P ⟨i.val, h⟩ (readP pInit ⟨i.val, h⟩) }
  else
    let box : Fin 4 := ⟨(i.val - 18) / 256, by omega⟩
    let j : Fin 256 := ⟨(i.val - 18) % 256, by omega⟩
    { c with S := writeS c.S box j (readS sInit box j) }

/-- The write-back of generating encryption number `g` = 0 to 520 (R79). -/
def writeBack (g : Fin 1042) (b : Block) (c : CipherState) : CipherState :=
  if h : g.val < 9 then writeBackP ⟨g.val, h⟩ b c
  else writeBackS (Fin.ofNat 4 ((g.val - 9) / 128)) (Fin.ofNat 128 ((g.val - 9) % 128)) b c

/-- A micro-step of phase `KX_INIT` (R79). -/
def microInit (s : State) : State :=
  let s' := setTables (writeSeed s.seqI s.tables) s
  if s.seqI.val = 1041 then { s' with seqPhase := .kxXor, seqI := 0 } else { s' with seqI := nextI s.seqI }

/-- A micro-step of phase `KX_XOR` (R79). -/
def microXor (s : State) : State :=
  let i : Fin 18 := Fin.ofNat 18 s.seqI.val
  let s' := { s with P := writeP s.P i (readP s.P i ^^^ keyWord s.key s.pending.keyLength i.val) }
  if s.seqI.val = 17 then setWork ⟨0#32, 0#32⟩ { s' with seqPhase := .kxGen, seqI := 0, seqT := 0 }
  else { s' with seqI := nextI s.seqI }

/-- A micro-step of phase `KX_GEN`: a step of the encryption, and after the last one the write-back; after encryption 520
the new instance, the key buffer cleared, and `IDLE` (R79). -/
def microGen (s : State) : State :=
  let b := feistelStep s.P s.S .enc s.seqT s.workBlock
  let s' := setWork b s
  if s.seqT.val = 17 then
    let s' := setTables (writeBack s.seqI b s.tables) s'
    if s.seqI.val = 520 then finish (clearKey { s' with valid := true })
    else { s' with seqT := 0, seqI := nextI s.seqI }
  else { s' with seqT := nextT s.seqT }

/-- A micro-step of phase `BLK`: a step of the transform, and after the last one the result (R102). -/
def microBlk (s : State) : State :=
  let b := feistelStep s.P s.S s.pending.direction s.seqT s.workBlock
  let s' := setWork b s
  if s.seqT.val = 17 then finish (deliver b s') else { s' with seqT := nextT s.seqT }

/-- One micro-step of the engine; none in phase `IDLE`. -/
def microStep (s : State) : State :=
  match s.seqPhase with
  | .idle => s
  | .kxInit => microInit s
  | .kxXor => microXor s
  | .kxGen => microGen s
  | .blk => microBlk s

/-- `k` micro-steps. -/
def microSteps : Nat → State → State
  | 0, s => s
  | k + 1, s => microSteps k (microStep s)

/-- How many micro-steps a pending command takes from its acceptance: 1042 seed words, 18 key words and 521 encryptions of
18 steps, or one transform of 18 steps (R79, R80, R102). -/
def Pending.microSteps : Pending → Nat
  | .none => 0
  | .kx _ => 1042 + 18 + 521 * 18
  | .enc => 18
  | .dec => 18

/-- A state with what no host can see of the sequencer forgotten: `SEQ.i`, `SEQ.t`, the working block and the draw counter
as in `State.reset` (R31, R32: meaningless while `BUSY = 0`). -/
def State.forgetScratch (s : State) : State := { s with seqI := 0, seqT := 0, workL := 0#32, workR := 0#32, draws := 0 }

end Sys2Proof.Machine
end

