-- ==== Sys2Proof/Machine/Turns.lean ====
section
/-! DEFINITION. Turns.lean: one turn of one agent (00_scope.md R13). The engine's own step is a parameter: `complete` gives
the normative machine, `microStep` its refinement (92_eei_decisions.md D20). -/

namespace Sys2Proof.Machine

/-- One turn (R13): a host read, a host write, an access the model refuses (R53, U8), the engine's step, or reset. -/
def takeTurn (engine : State → State) (turn : Turn) (s : State) : Outcome :=
  match turn with
  | .hostRead n => hostRead n s
  | .hostWrite n v => hostWrite n v s
  | .partialAccess n => .refused (.accessNotWholeRegister n)
  | .engine => .next (engine s)
  | .reset => .next (resetEngine s)

/-- The next turn of the list. When none is left only the engine can move: a pending command completes (the fairness of
R13), and an idle engine "does nothing until the host writes `CMD`" (R38; log entry 8). -/
def nextTurn (engine : State → State) (s : State) : Outcome :=
  match s.inputs with
  | [] => .next (engine s)
  | turn :: rest => takeTurn engine turn (setInputs rest s)

/-- The turn that fetches an instruction: the host's write of its word to `CMD`, register number 0 (R60). Bits at `nbits`
and above are 0. -/
def fetchTurn (nbits w : Nat) : Turn := .hostWrite 0 (BitVec.ofNat 32 (w % 2 ^ nbits))

end Sys2Proof.Machine
end

