-- ==== Sys2Proof/Machine/Step.lean ====
section
/-! DEFINITION. Step.lean: the step of the machine. The engine fetches no instructions (10_state.md R31): a command comes
with a host write to `CMD`, the next turn of the state's list of turns. -/

namespace Sys2Proof.Machine

/-- One step: the next turn of the agents, the engine's own step being the atomic `Complete` (00_scope.md R13,
43_lifecycle_and_host_access.md R107). -/
def step (s : State) : Host.Outcome State Fault Refusal := nextTurn complete s

/-- The refined machine: as `step`, but a turn of the engine is one micro-step (40_key_expansion.md R79,
42_block_transform.md R102). -/
def fineStep (s : State) : Host.Outcome State Fault Refusal := nextTurn microStep s

/-- The state with the host's write of the word `w` to `CMD` as its next turn, so that the next step decodes and runs it;
nothing else changes (log entry 10). -/
def State.withFetchWord (s : State) (nbits w : Nat) : State := setInputs (fetchTurn nbits w :: s.inputs) s

end Sys2Proof.Machine
end

