-- ==== Sys2Proof/Machine/HostProgram.lean ====
section
/-! DEFINITION. HostProgram.lean: the spec's notation for host programs and the document's public operations as host
sequences (30_encoding.md R67, R68), as lists of turns. `WAIT` stands for any number of reads of `STATUS` that see
`BUSY = 1`, then the completion if one is pending, then the read that sees `BUSY = 0`; the number is an argument, so a
claim for all numbers is a claim for every schedule of the wait (log entry 21). -/

namespace Sys2Proof.Machine

/-- The write of a command's word to `CMD` (R67). -/
def commandTurn (i : Instr) : Turn := .hostWrite 0 (encode i)

/-- `WAIT` with `polls` reads before the completion (R67). -/
def waitTurns (polls : Nat) : List Turn := List.replicate polls (.hostRead 1) ++ [.engine, .hostRead 1]

/-- Word `j` of a key as the host writes it: absent bytes are written as `0x00` (R68). -/
def keyWordToWrite (key : List Byte) (j : Nat) : Word :=
  be32 (key.getD (4 * j) 0#8) (key.getD (4 * j + 1) 0#8) (key.getD (4 * j + 2) 0#8) (key.getD (4 * j + 3) 0#8)

/-- The writes of the key words: `j` in `0 .. min(13, ceil(n / 4) - 1)` (R68). -/
def keyTurns (key : List Byte) : List Turn :=
  (List.range (min 14 ((key.length + 3) / 4))).map (fun j => .hostWrite (8 + j) (keyWordToWrite key j))

/-- `construct(key)`: `WAIT`, the key words, `KEYLEN`, `KEYEXP`, `WAIT` (R68). `KEYLEN` has 32 bits (R23); what
`WR KEYLEN, n` writes for a key of `2^32` bytes or more the spec does not say, and the length modulo `2^32` is a DESIGN
CHOICE of the model (log entry 24). -/
def constructTurns (polls polls' : Nat) (key : List Byte) : List Turn :=
  waitTurns polls ++ keyTurns key ++ [.hostWrite 2 (BitVec.ofNat 32 key.length), commandTurn .keyexp] ++
    waitTurns polls'

/-- `construct56(key)`: the same without `KEYLEN`, with `KEYEXP56` (R68). -/
def construct56Turns (polls polls' : Nat) (key : Vector Byte 56) : List Turn :=
  waitTurns polls ++ keyTurns key.toList ++ [commandTurn .keyexp56] ++ waitTurns polls'

/-- `encrypt_block(blk)` and `decrypt_block(blk)`: `WAIT`, the two halves, the command, `WAIT`, the two result words
(R68). -/
def transformTurns (i : Instr) (polls polls' : Nat) (blk : Vector Byte 8) : List Turn :=
  waitTurns polls ++
    [.hostWrite 4 (blockOfBytes blk).L, .hostWrite 5 (blockOfBytes blk).R, commandTurn i] ++
    waitTurns polls' ++ [.hostRead 6, .hostRead 7]

/-- `drop(cipher)`: `WAIT`, `DROP` (R68). -/
def dropTurns (polls : Nat) : List Turn := waitTurns polls ++ [commandTurn .drop]

/-- `k` steps of the machine, stopping at the first refusal: `Host.Core.run` of `core`, over the types of this model. -/
def runSteps : Nat → State → Outcome
  | 0, s => .next s
  | k + 1, s =>
    match step s with
    | .next t => runSteps k t
    | .fault r => .fault r
    | .refused r => .refused r

end Sys2Proof.Machine
end

