-- ==== Sys2Proof/Safety.lean ====
section
/-! DEFINITION. Safety.lean: the terms claims are stated in: which turns the engine decodes, the invariant that ties
`PENDING`, the flags and the sequencer together (10_state.md R28, R30, R31, R36), and the start position of the
sequencer. No step faults (`Fault` is empty), so a safe run is one that is not refused. -/

namespace Sys2Proof.Machine

/-- The engine decodes this turn: its register number is 0 to 31 and it moves a whole register (R20, R53). -/
def Turn.inPort : Turn → Bool
  | .hostRead n => registerNumberWellFormed n
  | .hostWrite n _ => registerNumberWellFormed n
  | .partialAccess _ => false
  | .engine => true
  | .reset => true

/-- A turn of the host on a register the engine decodes. -/
def Turn.isHost : Turn → Bool
  | .hostRead n => registerNumberWellFormed n
  | .hostWrite n _ => registerNumberWellFormed n
  | .partialAccess _ => false
  | .engine => false
  | .reset => false

/-- The phases of the sequencer that belong to a pending command (R31, R79, R102). -/
def Pending.phases : Pending → List Phase
  | .none => [.idle]
  | .kx _ => [.kxInit, .kxXor, .kxGen]
  | .enc => [.blk]
  | .dec => [.blk]

/-- The block registers hold what they held. -/
def SameBlocks (s t : State) : Prop := t.dinL = s.dinL ∧ t.dinR = s.dinR ∧ t.doutL = s.doutL ∧ t.doutR = s.doutR

/-- The key buffer and `KEYLEN` hold what they held. -/
def SameKey (s t : State) : Prop := t.key = s.key ∧ t.keylen = s.keylen

/-- Every word of `P` and of `S` reads as before. -/
def SameTables (s t : State) : Prop := t.P = s.P ∧ t.S = s.S

/-- The turns to come and the host's log are as before. -/
def SameHost (s t : State) : Prop := t.inputs = s.inputs ∧ t.hostLog = s.hostLog

/-- The invariant of the engine: at every moment the flags, `PENDING` and the sequencer tell one lifecycle state. -/
structure Coherent (s : State) : Prop where
  /-- "`BUSY = 1` exactly when `PENDING` is not `NONE`" (R28) -/
  busy_iff : s.busy = true ↔ s.pending ≠ .none
  /-- a key expansion is pending only while `VALID = 0` (R36, Expanding) -/
  expanding : ∀ n, s.pending = .kx n → s.valid = false
  /-- a transform is pending only while `VALID = 1` (R36, Transforming) -/
  transforming : s.pending = .enc ∨ s.pending = .dec → s.valid = true
  /-- the sequencer works at what is pending; it is idle exactly when nothing is (R31) -/
  phase : s.seqPhase ∈ s.pending.phases
  /-- in `KX_XOR` the word index is 0 to 17 (R31) -/
  xor_index : s.seqPhase = .kxXor → s.seqI.val ≤ 17
  /-- in `KX_GEN` the encryption number is 0 to 520 (R31) -/
  gen_index : s.seqPhase = .kxGen → s.seqI.val ≤ 520
  /-- while a command is pending the last outcome is its acceptance (R29, R106) -/
  busy_err : s.busy = true → s.err = .none
  /-- with an instance present the last outcome is an acceptance or an illegal command (R106, R110) -/
  valid_err : s.valid = true → s.err = .none ∨ s.err = .illegalCommand

/-- A busy engine's sequencer stands where acceptance put it. The normative machine keeps this, since `Complete` is one
step and every host write is discarded meanwhile (R30, R107); under micro-steps it holds at acceptance only. -/
def AtStart (s : State) : Prop := s.busy = true → startSequencer s.pending s = s

end Sys2Proof.Machine
end

