-- ==== Sys2Proof/Certificates/Slice0/Obligations.lean ====
section
/-! DEFINITION. Obligations.lean: the statements for the provers, one `def Obligations.<Name> : Prop` each, with the rule
of spec/ it formalises in its docstring. A turn of an agent is put in front of the turns to come with
`setInputs (turn :: rest) s`; the step that takes it is then `step`. -/

open Sys2Proof Sys2Proof.Machine

/-! ### Reset -/

/-- R38: the reset value of every piece of state the spec gives one; `STATUS` reads 0, and with nothing to do the engine
does nothing. The pieces R38 leaves unspecified (`P`, `S`, `SEQ.i`, `SEQ.t`, the working block) are not mentioned. -/
def Obligations.ResetHoldsTheSpecsValues : Prop :=
  State.reset.valid = false ∧ State.reset.busy = false ∧ State.reset.err = .none ∧ State.reset.pending = .none ∧
  State.reset.seqPhase = .idle ∧ (∀ (k : Nat) (h : k < 56), State.reset.key[k] = 0#8) ∧ State.reset.keylen = 0#32 ∧
  State.reset.dinL = 0#32 ∧ State.reset.dinR = 0#32 ∧ State.reset.doutL = 0#32 ∧ State.reset.doutR = 0#32 ∧
  State.reset.status = 0#32 ∧ State.reset.lifecycle = .empty ∧ step State.reset = .next State.reset

/-- R125, R126: reset may occur at any moment, also while a command is pending; it gives the reset values, leaves the
engine Empty, abandons the command (no completion follows) and `DOUT_L`, `DOUT_R` read 0. -/
def Obligations.ResetEventFromAnyState : Prop :=
  ∀ (s : State) (rest : List Turn), ∃ t, step (setInputs (.reset :: rest) s) = .next t ∧
    t.valid = false ∧ t.busy = false ∧ t.err = .none ∧ t.pending = .none ∧ t.seqPhase = .idle ∧
    (∀ (k : Nat) (h : k < 56), t.key[k] = 0#8) ∧ t.keylen = 0#32 ∧
    t.dinL = 0#32 ∧ t.dinR = 0#32 ∧ t.doutL = 0#32 ∧ t.doutR = 0#32 ∧
    t.status = 0#32 ∧ t.lifecycle = .empty ∧ t.inputs = rest ∧ t.hostLog = s.hostLog ∧ complete t = t

/-! ### The register port -/

/-- R22: the layout of `STATUS`, its reset value, a read without side effect on the engine, an ignored write. -/
def Obligations.StatusWordLayout : Prop :=
  State.reset.status = 0#32 ∧
  ∀ s : State,
    s.status.getLsbD 0 = s.busy ∧ s.status.getLsbD 1 = s.valid ∧ s.status.extractLsb' 8 3 = s.err.code ∧
    (∀ i, 2 ≤ i → i ≤ 7 → s.status.getLsbD i = false) ∧ (∀ i, 11 ≤ i → s.status.getLsbD i = false) ∧
    (∀ rest, step (setInputs (.hostRead 1 :: rest) s) =
      .next { s with inputs := rest, hostLog := (1, s.status) :: s.hostLog }) ∧
    (∀ v rest, step (setInputs (.hostWrite 1 v :: rest) s) = .next (setInputs rest s))

/-- R108: what `HostRead(n)` returns for every register number, in every lifecycle state; no state of the engine
changes. -/
def Obligations.HostReadReturnsTheRegister : Prop :=
  ∀ (s : State) (rest : List Turn) (n : Nat), n ≤ 31 → ∃ v : Word,
    step (setInputs (.hostRead n :: rest) s) = .next { s with inputs := rest, hostLog := (n, v) :: s.hostLog } ∧
    (n = 0 → v = 0#32) ∧
    (n = 1 → v.toNat = s.err.code.toNat * 256 + s.valid.toNat * 2 + s.busy.toNat) ∧
    (n = 2 → v = s.keylen) ∧ (n = 4 → v = s.dinL) ∧ (n = 5 → v = s.dinR) ∧ (n = 6 → v = s.doutL) ∧
    (n = 7 → v = s.doutR) ∧ (8 ≤ n ∧ n ≤ 21 → v = 0#32) ∧ (n = 3 ∨ 22 ≤ n → v = 0#32)

/-- R109 (with the dispatch of R62): what `HostWrite(n, v)` does for every register number, busy or not. -/
def Obligations.HostWriteEffect : Prop :=
  ∀ (s : State) (rest : List Turn) (n : Nat) (v : Word), n ≤ 31 →
    (s.busy = true → step (setInputs (.hostWrite n v :: rest) s) = .next (setInputs rest s)) ∧
    (s.busy = false →
      (n = 0 → ∀ i, decode v = .command i →
        step (setInputs (.hostWrite n v :: rest) s) = exec i (setInputs rest s)) ∧
      (n = 0 → ∀ why, decode v = .illegal why →
        step (setInputs (.hostWrite n v :: rest) s) = .next { s with inputs := rest, err := .illegalCommand }) ∧
      (n = 2 → step (setInputs (.hostWrite n v :: rest) s) = .next { s with inputs := rest, keylen := v }) ∧
      (n = 4 → step (setInputs (.hostWrite n v :: rest) s) = .next { s with inputs := rest, dinL := v }) ∧
      (n = 5 → step (setInputs (.hostWrite n v :: rest) s) = .next { s with inputs := rest, dinR := v }) ∧
      (8 ≤ n ∧ n ≤ 21 → ∃ key' : KeyBuffer,
        step (setInputs (.hostWrite n v :: rest) s) = .next { s with inputs := rest, key := key' } ∧
        ∀ (k : Nat) (h : k < 56),
          key'[k] = if k / 4 = n - 8 then v.extractLsb' (24 - 8 * (k % 4)) 8 else s.key[k]) ∧
      (n = 1 ∨ n = 3 ∨ n = 6 ∨ n = 7 ∨ 22 ≤ n →
        step (setInputs (.hostWrite n v :: rest) s) = .next (setInputs rest s)))

/-- R20, R53 and 93 U7, U8: an access at a register number above 31, or not of one whole register, is refused by
name. The names, and that the refusal comes before the test of `BUSY`, are the model's choice (log entry 11). -/
def Obligations.UndecodedAccessIsRefused : Prop :=
  ∀ (s : State) (rest : List Turn) (n : Nat) (v : Word),
    (31 < n → step (setInputs (.hostRead n :: rest) s) = .refused (.registerNotDecoded n) ∧
      step (setInputs (.hostWrite n v :: rest) s) = .refused (.registerNotDecoded n)) ∧
    step (setInputs (.partialAccess n :: rest) s) = .refused (.accessNotWholeRegister n)

/-- R48, R50: bytes and words are big-endian: the value of a packed word, the halves of a block of 8 bytes, and packing and
splitting undo each other, for words and for blocks. -/
def Obligations.BytesAndWordsAreBigEndian : Prop :=
  (∀ v : Vector Byte 8, (blockOfBytes v).L = be32 v[0] v[1] v[2] v[3] ∧ (blockOfBytes v).R = be32 v[4] v[5] v[6] v[7]) ∧
  (∀ a b c d : Byte, (be32 a b c d).toNat = 0x1000000 * a.toNat + 0x10000 * b.toNat + 0x100 * c.toNat + d.toNat) ∧
  (∀ x : Word, be32 (byteOf 0 x) (byteOf 1 x) (byteOf 2 x) (byteOf 3 x) = x) ∧
  (∀ b : Block, blockOfBytes (bytesOfBlock b) = b) ∧
  (∀ v : Vector Byte 8, bytesOfBlock (blockOfBytes v) = v)

/-! ### Decoding -/

/-- R61, R65: a word selects a command exactly when all 32 bits match; every other word is illegal. -/
def Obligations.DecodeAcceptsExactlyTheTable : Prop :=
  ∀ w : Word,
    (decode w = .command .keyexp ↔ w.toNat = 1) ∧ (decode w = .command .keyexp56 ↔ w.toNat = 2) ∧
    (decode w = .command .encrypt ↔ w.toNat = 3) ∧ (decode w = .command .decrypt ↔ w.toNat = 4) ∧
    (decode w = .command .drop ↔ w.toNat = 5) ∧
    ((∃ why, decode w = .illegal why) ↔ w.toNat = 0 ∨ 6 ≤ w.toNat)

/-- Decode and encode agree in both directions for all commands and all 2^32 words; the decoder is the search of the
opcode table of R69, and the words it accepts are the well-formed ones. -/
def Obligations.DecodeInvertsEncode : Prop :=
  (∀ i : Instr, decode (encode i) = .command i) ∧
  (∀ (w : Word) (i : Instr), decode w = .command i → encode i = w) ∧
  (∀ (w : Word) (i : Instr), decode w = .command i ↔ decodeByTable w = some i) ∧
  (∀ w : Word, commandWordWellFormed w = true ↔ ∃ i, decode w = .command i)

/-- The five command words of the opcode table, and four illegal ones. -/
def Obligations.DecodeOfWrittenOutWords : Prop :=
  decode 0b00000000000000000000000000000001#32 = .command .keyexp ∧
  decode 0b00000000000000000000000000000010#32 = .command .keyexp56 ∧
  decode 0b00000000000000000000000000000011#32 = .command .encrypt ∧
  decode 0b00000000000000000000000000000100#32 = .command .decrypt ∧
  decode 0b00000000000000000000000000000101#32 = .command .drop ∧
  decode 0x00000000#32 = .illegal .opUnassigned ∧ decode 0x00000006#32 = .illegal .opUnassigned ∧
  decode 0x00000103#32 = .illegal .zeroFieldSet ∧ decode 0x80000001#32 = .illegal .zeroFieldSet

/-- A step runs the decoded command: when the next turn is a `CMD` write of a word that decodes to `i` and the engine is
not busy, the step is `exec i` of the state with that turn taken from the list; the same for a word placed with
`withFetchWord`. That commands come as the host's turns is the model's form (log entry 10). -/
def Obligations.StepRunsTheDecodedCommand : Prop :=
  (∀ (s : State) (rest : List Turn) (v : Word) (i : Instr), s.busy = false → decode v = .command i →
    step (setInputs (.hostWrite 0 v :: rest) s) = exec i (setInputs rest s)) ∧
  (∀ (s : State) (nbits w : Nat) (i : Instr), s.busy = false → decodeTableWord nbits w = some i →
    step (s.withFetchWord nbits w) = exec i s)

/-- R116: an illegal command word sets `ERR` to 3 and changes nothing else. -/
def Obligations.IllegalCommandSetsErrOnly : Prop :=
  ∀ (s : State) (rest : List Turn) (v : Word), s.busy = false → v.toNat < 1 ∨ 5 < v.toNat →
    step (setInputs (.hostWrite 0 v :: rest) s) = .next { s with inputs := rest, err := .illegalCommand }

/-- R119: the fixed order in which a `CMD` write is examined, and the one test of each command. -/
def Obligations.CommandWriteIsExaminedInOrder : Prop :=
  ∀ (s : State) (rest : List Turn) (v : Word), ∃ t, step (setInputs (.hostWrite 0 v :: rest) s) = .next t ∧
    (s.busy = true → t = setInputs rest s) ∧
    (s.busy = false → v.toNat < 1 ∨ 5 < v.toNat → t.err = .illegalCommand) ∧
    (s.busy = false → v.toNat = 1 → t.err = if 4 ≤ s.keylen.toNat ∧ s.keylen.toNat ≤ 56 then .none else .invalidLength) ∧
    (s.busy = false → v.toNat = 3 ∨ v.toNat = 4 → t.err = if s.valid then .none else .noCipher) ∧
    (s.busy = false → v.toNat = 2 ∨ v.toNat = 5 → t.err = .none)

/-! ### The commands -/

/-- R77: `KEYEXP`, refused, accepted and completed. -/
def Obligations.KeyexpEffect : Prop :=
  decode 0x00000001#32 = .command .keyexp ∧ ∀ s : State, s.busy = false →
    (s.keylen.toNat < 4 ∨ 56 < s.keylen.toNat →
      exec .keyexp s = .next { s with
        valid := false, P := Vector.replicate 18 0#32, S := Vector.replicate 4 (Vector.replicate 256 0#32),
        err := .invalidLength }) ∧
    (∀ n : KeyLength, s.keylen.toNat = n.val → ∃ t, exec .keyexp s = .next t ∧
      t.valid = false ∧ t.err = .none ∧ t.pending = .kx n ∧ t.busy = true ∧
      SameTables s t ∧ SameKey s t ∧ SameBlocks s t ∧ SameHost s t ∧
      ∀ rest, ∃ u, step (setInputs (.engine :: rest) t) = .next u ∧
        u.P = (expandKey s.key n).P ∧ u.S = (expandKey s.key n).S ∧ u.valid = true ∧
        (∀ (k : Nat) (h : k < 56), u.key[k] = 0#8) ∧ u.keylen = 0#32 ∧ u.pending = .none ∧ u.busy = false ∧
        u.err = .none ∧ SameBlocks s u ∧ u.inputs = rest ∧ u.hostLog = s.hostLog)

/-- R78: `KEYEXP56` is accepted whatever `KEYLEN` holds and completes as `KEYEXP` with 56 bytes; the two commands do the
same when `KEYLEN = 56`. -/
def Obligations.Keyexp56Effect : Prop :=
  decode 0x00000002#32 = .command .keyexp56 ∧ ∀ s : State, s.busy = false →
    (∃ t n, exec .keyexp56 s = .next t ∧ n.val = 56 ∧
      t.valid = false ∧ t.err = .none ∧ t.pending = .kx n ∧ t.busy = true ∧
      SameTables s t ∧ SameKey s t ∧ SameBlocks s t ∧ SameHost s t ∧
      ∀ rest, ∃ u, step (setInputs (.engine :: rest) t) = .next u ∧
        u.P = (expandKey s.key n).P ∧ u.S = (expandKey s.key n).S ∧ u.valid = true ∧
        (∀ (k : Nat) (h : k < 56), u.key[k] = 0#8) ∧ u.keylen = 0#32 ∧ u.pending = .none ∧ u.busy = false ∧
        u.err = .none ∧ SameBlocks s u ∧ u.inputs = rest ∧ u.hostLog = s.hostLog) ∧
    (s.keylen.toNat = 56 → exec .keyexp s = exec .keyexp56 s)

/-- R97: `ENCRYPT`, refused, accepted and completed. -/
def Obligations.EncryptEffect : Prop :=
  decode 0x00000003#32 = .command .encrypt ∧ ∀ s : State, s.busy = false →
    (s.valid = false → exec .encrypt s = .next { s with err := .noCipher }) ∧
    (s.valid = true → ∃ t, exec .encrypt s = .next t ∧
      t.err = .none ∧ t.pending = .enc ∧ t.busy = true ∧ t.valid = true ∧
      SameTables s t ∧ SameKey s t ∧ SameBlocks s t ∧ SameHost s t ∧
      ∀ rest, ∃ u, step (setInputs (.engine :: rest) t) = .next u ∧
        (⟨u.doutL, u.doutR⟩ : Block) = encryptBlock s.P s.S ⟨s.dinL, s.dinR⟩ ∧
        u.pending = .none ∧ u.busy = false ∧ u.err = .none ∧ u.valid = true ∧ SameTables s u ∧ SameKey s u ∧
        u.dinL = s.dinL ∧ u.dinR = s.dinR ∧ u.inputs = rest ∧ u.hostLog = s.hostLog)

/-- R98, its pseudocode: `DECRYPT`, refused, accepted and completed. -/
def Obligations.DecryptEffect : Prop :=
  decode 0x00000004#32 = .command .decrypt ∧ ∀ s : State, s.busy = false →
    (s.valid = false → exec .decrypt s = .next { s with err := .noCipher }) ∧
    (s.valid = true → ∃ t, exec .decrypt s = .next t ∧
      t.err = .none ∧ t.pending = .dec ∧ t.busy = true ∧ t.valid = true ∧
      SameTables s t ∧ SameKey s t ∧ SameBlocks s t ∧ SameHost s t ∧
      ∀ rest, ∃ u, step (setInputs (.engine :: rest) t) = .next u ∧
        (⟨u.doutL, u.doutR⟩ : Block) = decryptBlock s.P s.S ⟨s.dinL, s.dinR⟩ ∧
        u.pending = .none ∧ u.busy = false ∧ u.err = .none ∧ u.valid = true ∧ SameTables s u ∧ SameKey s u ∧
        u.dinL = s.dinL ∧ u.dinR = s.dinR ∧ u.inputs = rest ∧ u.hostLog = s.hostLog)

/-- R105: `DROP` takes effect at the write, is never refused, and afterwards every register reads 0. -/
def Obligations.DropEffect : Prop :=
  decode 0x00000005#32 = .command .drop ∧ ∀ s : State, s.busy = false → ∃ t, exec .drop s = .next t ∧
    t = { s with
      valid := false, P := Vector.replicate 18 0#32, S := Vector.replicate 4 (Vector.replicate 256 0#32),
      key := Vector.replicate 56 0#8, keylen := 0#32, dinL := 0#32, dinR := 0#32, doutL := 0#32, doutR := 0#32,
      err := .none } ∧
    ∀ (n : Nat) (rest : List Turn), n ≤ 31 → step (setInputs (.hostRead n :: rest) t) =
      .next { t with inputs := rest, hostLog := (n, 0#32) :: t.hostLog }

/-- R115: `ENCRYPT` and `DECRYPT` without an instance set `ERR` to 2; nothing else changes. -/
def Obligations.NoCipherRefusal : Prop :=
  ∀ s : State, s.busy = false → s.valid = false →
    exec .encrypt s = .next { s with err := .noCipher } ∧ exec .decrypt s = .next { s with err := .noCipher }

/-- R114: `KEYEXP` with a length outside 4 to 56 ends the instance, sets `ERR` to 1, and leaves `BUSY`, `KEY`, `KEYLEN`
and the block registers alone. -/
def Obligations.InvalidLengthRefusal : Prop :=
  ∀ s : State, s.busy = false → s.keylen.toNat < 4 ∨ 56 < s.keylen.toNat → ∃ t, exec .keyexp s = .next t ∧
    t.err = .invalidLength ∧ t.valid = false ∧ (∀ i, readP t.P i = 0#32) ∧ (∀ b j, readS t.S b j = 0#32) ∧
    t.busy = false ∧ t.pending = s.pending ∧ SameKey s t ∧ SameBlocks s t ∧ SameHost s t

/-- The frame of the commands at the `CMD` write: what each leaves unchanged (R63, columns "writes at acceptance"). -/
def Obligations.CommandFrame : Prop :=
  ∀ (i : Instr) (s t : State), s.busy = false → exec i s = .next t →
    SameHost s t ∧ t.draws = s.draws ∧ (i ≠ .drop → SameBlocks s t ∧ SameKey s t) ∧
    (i = .keyexp56 ∨ i = .encrypt ∨ i = .decrypt → SameTables s t) ∧
    (i = .keyexp → 4 ≤ s.keylen.toNat ∧ s.keylen.toNat ≤ 56 → SameTables s t) ∧
    (i = .encrypt ∨ i = .decrypt → t.valid = s.valid) ∧
    (t.busy = false → t.pending = s.pending ∧ t.seqPhase = s.seqPhase ∧ t.seqI = s.seqI ∧ t.seqT = s.seqT ∧
      t.workL = s.workL ∧ t.workR = s.workR)

/-- Where acceptance puts the sequencer: `BLK` with the input block by R102; `KX_INIT` with index 0, and what else stays,
is the model's choice (log entry 13). -/
def Obligations.AcceptanceStartsTheSequencer : Prop :=
  ∀ s : State,
    (∀ n : KeyLength, s.keylen.toNat = n.val → ∃ t, exec .keyexp s = .next t ∧
      t.seqPhase = .kxInit ∧ t.seqI = 0 ∧ t.seqT = s.seqT ∧ t.workL = s.workL ∧ t.workR = s.workR) ∧
    (∃ t, exec .keyexp56 s = .next t ∧
      t.seqPhase = .kxInit ∧ t.seqI = 0 ∧ t.seqT = s.seqT ∧ t.workL = s.workL ∧ t.workR = s.workR) ∧
    (s.valid = true → ∀ i, i = .encrypt ∨ i = .decrypt → ∃ t, exec i s = .next t ∧
      t.seqPhase = .blk ∧ t.seqT = 0 ∧ t.workL = s.dinL ∧ t.workR = s.dinR ∧ t.seqI = s.seqI)

/-- R132: after a completed key expansion `KEYEXP` without rewriting is refused and ends the instance, and `KEYEXP56` is
accepted over 56 zero bytes. -/
def Obligations.KeyBufferIsConsumed : Prop :=
  ∀ (s : State) (n : KeyLength) (rest : List Turn), s.busy = true → s.pending = .kx n →
    ∃ t, step (setInputs (.engine :: rest) s) = .next t ∧ t.valid = true ∧
      (∃ u, exec .keyexp t = .next u ∧ u.err = .invalidLength ∧ u.valid = false) ∧
      (∃ u, exec .keyexp56 t = .next u ∧ u.pending = .kx fullLength ∧ (∀ (k : Nat) (h : k < 56), u.key[k] = 0#8))

/-! ### The datapath -/

/-- R84: `F` splits its input into four bytes, most significant first, indexes the four boxes with them and combines the
words by add, xor, add. -/
def Obligations.RoundFunctionIsTheFormula : Prop :=
  ∀ (S : SBoxes) (x : Word) (b0 b1 b2 b3 : Fin 256),
    x.toNat = 0x1000000 * b0.val + 0x10000 * b1.val + 0x100 * b2.val + b3.val →
    (F S x).toNat =
      ((((S[0][b0].toNat + S[1][b1].toNat) % 2 ^ 32) ^^^ S[2][b2].toNat) + S[3][b3].toNat) % 2 ^ 32

/-- R70: word `i` of the endlessly repeated key, and the two forms of the cyclic key read give the same 18 words. -/
def Obligations.KeyWordFormsAgree : Prop :=
  ∀ (key : KeyBuffer) (n : KeyLength),
    (∀ (i : Nat) (k0 k1 k2 k3 : Fin 56), k0.val = 4 * i % n.val → k1.val = (4 * i + 1) % n.val →
      k2.val = (4 * i + 2) % n.val → k3.val = (4 * i + 3) % n.val →
      keyWord key n i = be32 key[k0] key[k1] key[k2] key[k3]) ∧
    keyWordsFrom key n 18 0 = (List.range 18).map (keyWord key n)

/-- R51: a write to `KEYWj` stores key bytes `4j .. 4j+3`, the first from bits 31:24; when `KEYLEN` is a multiple of 4, word `i` of the key stream for `i < KEYLEN / 4` is the word the host wrote to
`KEYWi`. -/
def Obligations.WrittenKeyWordIsReadBack : Prop :=
  ∀ (s : State) (j : Fin 14) (v : Word),
    (∀ (k : Nat) (h : k < 56), (writeKeyWord j v s).key[k] =
      if k / 4 = j.val then v.extractLsb' (24 - 8 * (k % 4)) 8 else s.key[k]) ∧
    ∀ n : KeyLength, n.val % 4 = 0 → j.val < n.val / 4 → keyWord (writeKeyWord j v s).key n j.val = v ∧
    ∀ i : Fin 14, i.val < n.val / 4 → i ≠ j → keyWord (writeKeyWord j v s).key n i.val = keyWord s.key n i.val

/-- R73, R74: step 2 of key expansion xors word `i` of the key stream into `P[i]`, from any `P`, and so into the seed
table; `S` holds the seed boxes. -/
def Obligations.KeyMixingXorsEveryWord : Prop :=
  ∀ (key : KeyBuffer) (n : KeyLength),
    (∀ (P : PArray) (i : Fin 18), readP (mixKey key n P) i = readP P i ^^^ keyWord key n i.val) ∧
    (∀ i : Fin 18, readP (initialSchedule key n).tables.P i = readP pInit i ^^^ keyWord key n i.val) ∧
    (initialSchedule key n).tables.S = sInit ∧ (initialSchedule key n).run = ⟨0#32, 0#32⟩

/-- R75, R76, R79: `ExpandKey` is one chain of 521 encryptions: each takes the block the one before gave, under the tables
as all the earlier ones left them, and writes its output to the next two table words. -/
def Obligations.KeyExpansionIsOneChain : Prop :=
  ∀ (key : KeyBuffer) (n : KeyLength),
    expandKey key n =
      ((List.range 521).foldl (fun x g => generate (writeBack (Fin.ofNat 1042 g)) x) (initialSchedule key n)).tables

/-- R81, R71: a key and the key that repeats it give the same Cipher State, word for word. -/
def Obligations.RepeatedKeyGivesTheSameTables : Prop :=
  ∀ (key key' : KeyBuffer) (n n' : KeyLength) (m : Nat), n'.val = m * n.val →
    (∀ k : Fin 56, k.val < n'.val → key'[k] = key[k.val % n.val]'(Nat.lt_of_le_of_lt (Nat.mod_le _ _) k.isLt)) →
    expandKey key' n' = expandKey key n

/-- R81: every all-zero key gives the same Cipher State, whatever its length. -/
def Obligations.AllZeroKeysGiveTheSameTables : Prop :=
  ∀ (key key' : KeyBuffer) (n n' : KeyLength), (∀ k : Fin 56, k.val < n.val → key[k] = 0#8) →
    (∀ k : Fin 56, k.val < n'.val → key'[k] = 0#8) → expandKey key n = expandKey key' n'

/-- R24, U14: key bytes at the declared length and beyond change nothing of a `KEYEXP` and its completion. -/
def Obligations.UnusedKeyBytesAreIgnored : Prop :=
  ∀ (s : State) (key' : KeyBuffer), s.busy = false → 4 ≤ s.keylen.toNat → s.keylen.toNat ≤ 56 →
    (∀ k : Fin 56, k.val < s.keylen.toNat → key'[k] = s.key[k]) →
    ∃ t t', exec .keyexp s = .next t ∧ exec .keyexp { s with key := key' } = .next t' ∧ complete t = complete t'

/-- R96: the 18 steps give `EncryptBlock` and `DecryptBlock`. -/
def Obligations.StepFormIsTheBlockTransform : Prop :=
  ∀ (P : PArray) (S : SBoxes) (b : Block),
    transformBySteps P S .enc b = encryptBlock P S b ∧ transformBySteps P S .dec b = decryptBlock P S b

/-- R94: decryption is encryption with the permutation array reversed. -/
def Obligations.DecryptionIsEncryptionReversed : Prop :=
  ∀ (P rev : PArray) (S : SBoxes) (b : Block), (∀ k : Fin 18, readP rev k = readP P k.rev) →
    decryptBlock P S b = encryptBlock rev S b

/-- R95, R100: for every `P`, `S`, decryption and encryption undo each other, so encryption is a bijection of the
blocks. -/
def Obligations.BlockTransformsAreInverse : Prop :=
  ∀ (P : PArray) (S : SBoxes),
    (∀ b, decryptBlock P S (encryptBlock P S b) = b) ∧ (∀ b, encryptBlock P S (decryptBlock P S b) = b) ∧
    (∀ b b', encryptBlock P S b = encryptBlock P S b' → b = b') ∧ (∀ c, ∃ b, encryptBlock P S b = c)

/-- R98, its contract: encrypt, copy the output registers to the input registers, decrypt: `DOUT` holds the block. The
waits may see any number of reads before each completion. -/
def Obligations.RoundTripAtTheRegisters : Prop :=
  ∀ (s : State) (polls polls' : Nat), s.busy = false → s.valid = true →
    ∃ t, runSteps (polls + 2) (setInputs (commandTurn .encrypt :: List.replicate polls (.hostRead 1) ++ [.engine]) s) =
        .next t ∧
      ∃ u, runSteps (polls' + 4) (setInputs ([.hostWrite 4 t.doutL, .hostWrite 5 t.doutR, commandTurn .decrypt] ++
          List.replicate polls' (.hostRead 1) ++ [.engine]) t) = .next u ∧
        u.doutL = s.dinL ∧ u.doutR = s.dinR ∧ u.valid = true ∧ u.busy = false ∧ SameTables s u

/-! ### The whole machine -/

/-- The invariant `Coherent` holds at reset. -/
def Obligations.CoherentAtReset : Prop := Coherent State.reset

/-- R28, R30, R31, R36: every step keeps `Coherent`, from every state that has it. -/
def Obligations.StepKeepsCoherent : Prop := ∀ s t : State, Coherent s → step s = .next t → Coherent t

/-- The machine of micro-steps keeps `Coherent` too. -/
def Obligations.FineStepKeepsCoherent : Prop := ∀ s t : State, Coherent s → fineStep s = .next t → Coherent t

/-- R30: while a command is pending the sequencer and the operands stay as acceptance left them. Where acceptance of a key
expansion puts the sequencer is the model's reading (log entry 13). -/
def Obligations.StepKeepsAtStart : Prop :=
  AtStart State.reset ∧ ∀ s t : State, AtStart s → step s = .next t → AtStart t

/-- R110: the values `STATUS` can ever read, with the lifecycle state and the outcome each tells. -/
def Obligations.StatusReadsOneOfEightValues : Prop :=
  ∀ s : State, Coherent s →
    (s.status = 0x00000000#32 ∧ s.lifecycle = .empty ∧ s.err = .none) ∨
    (s.status = 0x00000100#32 ∧ s.lifecycle = .empty ∧ s.err = .invalidLength) ∨
    (s.status = 0x00000200#32 ∧ s.lifecycle = .empty ∧ s.err = .noCipher) ∨
    (s.status = 0x00000300#32 ∧ s.lifecycle = .empty ∧ s.err = .illegalCommand) ∨
    (s.status = 0x00000001#32 ∧ s.lifecycle = .expanding ∧ (∃ n, s.pending = .kx n) ∧ s.err = .none) ∨
    (s.status = 0x00000002#32 ∧ s.lifecycle = .ready ∧ s.err = .none) ∨
    (s.status = 0x00000302#32 ∧ s.lifecycle = .ready ∧ s.err = .illegalCommand) ∨
    (s.status = 0x00000003#32 ∧ s.lifecycle = .transforming ∧ (s.pending = .enc ∨ s.pending = .dec) ∧ s.err = .none)

/-- R106: the transitions between the four lifecycle states, with `ERR` afterwards. That a turn of the engine in Empty or
Ready changes nothing is no row of R106: it is deduced from R107 (log entry 9). -/
def Obligations.LifecycleTransitions : Prop :=
  ∀ (s t : State) (turn : Turn) (rest : List Turn), Coherent s → step (setInputs (turn :: rest) s) = .next t →
    (turn = .reset → t.lifecycle = .empty ∧ t.err = .none) ∧
    (turn = .engine → t.err = s.err ∧ t.lifecycle =
      (match s.lifecycle with | .expanding => .ready | .transforming => .ready | .empty => .empty | .ready => .ready)) ∧
    (∀ n, turn = .hostRead n → t.lifecycle = s.lifecycle ∧ t.err = s.err) ∧
    (∀ n v, turn = .hostWrite n v → s.lifecycle = .expanding ∨ s.lifecycle = .transforming ∨ n ≠ 0 →
      t.lifecycle = s.lifecycle ∧ t.err = s.err) ∧
    (∀ v, turn = .hostWrite 0 v → s.lifecycle = .empty ∨ s.lifecycle = .ready →
      (v.toNat = 1 → 4 ≤ s.keylen.toNat ∧ s.keylen.toNat ≤ 56 → t.lifecycle = .expanding ∧ t.err = .none) ∧
      (v.toNat = 1 → s.keylen.toNat < 4 ∨ 56 < s.keylen.toNat → t.lifecycle = .empty ∧ t.err = .invalidLength) ∧
      (v.toNat = 2 → t.lifecycle = .expanding ∧ t.err = .none) ∧
      (v.toNat = 3 ∨ v.toNat = 4 → s.lifecycle = .empty → t.lifecycle = .empty ∧ t.err = .noCipher) ∧
      (v.toNat = 3 ∨ v.toNat = 4 → s.lifecycle = .ready → t.lifecycle = .transforming ∧ t.err = .none) ∧
      (v.toNat = 5 → t.lifecycle = .empty ∧ t.err = .none) ∧
      (v.toNat < 1 ∨ 5 < v.toNat → t.lifecycle = s.lifecycle ∧ t.err = .illegalCommand))

/-- R33: while an instance exists nothing but `KEYEXP`, `KEYEXP56`, `DROP` and reset touches `P`, `S` or ends it. -/
def Obligations.CipherStateIsImmutable : Prop :=
  ∀ s t : State, Coherent s → s.valid = true → step s = .next t →
    (∀ rest, s.inputs ≠ .reset :: rest) →
    (∀ v rest, s.inputs = .hostWrite 0 v :: rest → v.toNat ≠ 1 ∧ v.toNat ≠ 2 ∧ v.toNat ≠ 5) →
    t.valid = true ∧ SameTables s t

/-- R18, R19: `P` and `S` change only by the completion of a key expansion, by `Destroy` (a refused `KEYEXP` or `DROP`)
and by reset. -/
def Obligations.TablesChangeOnlyBy : Prop :=
  ∀ s t : State, step s = .next t → ¬ SameTables s t →
    (s.busy = true ∧ (∃ n, s.pending = .kx n) ∧ (s.inputs = [] ∨ ∃ rest, s.inputs = .engine :: rest)) ∨
    (s.busy = false ∧ ∃ v rest, s.inputs = .hostWrite 0 v :: rest ∧
      (v.toNat = 5 ∨ v.toNat = 1 ∧ (s.keylen.toNat < 4 ∨ 56 < s.keylen.toNat))) ∨
    (∃ rest, s.inputs = .reset :: rest)

/-- R29: nothing but a `CMD` write made while `BUSY = 0` and reset changes `ERR`. -/
def Obligations.ErrChangesOnlyBy : Prop :=
  ∀ s t : State, step s = .next t → t.err ≠ s.err →
    (s.busy = false ∧ ∃ v rest, s.inputs = .hostWrite 0 v :: rest) ∨ (∃ rest, s.inputs = .reset :: rest)

/-- R26: `DOUT_L`, `DOUT_R` change only by the completion of a transform, by `DROP` and by reset. -/
def Obligations.OutputChangesOnlyBy : Prop :=
  ∀ s t : State, step s = .next t → t.doutL ≠ s.doutL ∨ t.doutR ≠ s.doutR →
    (s.busy = true ∧ (s.pending = .enc ∨ s.pending = .dec) ∧ (s.inputs = [] ∨ ∃ rest, s.inputs = .engine :: rest)) ∨
    (s.busy = false ∧ ∃ v rest, s.inputs = .hostWrite 0 v :: rest ∧ v.toNat = 5) ∨
    (∃ rest, s.inputs = .reset :: rest)

/-- R23, R24, R25: the key buffer, `KEYLEN` and the input registers change only by the host's own writes to them while
`BUSY = 0`, by the completion of a key expansion (key buffer and `KEYLEN`), by `DROP` and by reset. -/
def Obligations.OperandsChangeOnlyBy : Prop :=
  ∀ s t : State, step s = .next t →
    (¬ SameKey s t →
      (s.busy = true ∧ (∃ n, s.pending = .kx n) ∧ (s.inputs = [] ∨ ∃ rest, s.inputs = .engine :: rest)) ∨
      (s.busy = false ∧ ∃ n v rest, s.inputs = .hostWrite n v :: rest ∧
        (n = 2 ∨ 8 ≤ n ∧ n ≤ 21 ∨ n = 0 ∧ v.toNat = 5)) ∨
      (∃ rest, s.inputs = .reset :: rest)) ∧
    (t.dinL ≠ s.dinL ∨ t.dinR ≠ s.dinR →
      (s.busy = false ∧ ∃ n v rest, s.inputs = .hostWrite n v :: rest ∧ (n = 4 ∨ n = 5 ∨ n = 0 ∧ v.toNat = 5)) ∨
      (∃ rest, s.inputs = .reset :: rest))

/-- R117 and 93, end of part 1: every turn the engine decodes has a next state; only an access it does not decode stops a
run. Two parts are the model's choice: that a step with no turn listed answers a next state (log entry 8), and that an
undecoded access is refused also while `BUSY = 1` (log entry 11). -/
def Obligations.EveryDecodedTurnHasANextState : Prop :=
  ∀ s : State, (∃ t, step s = .next t) ↔ ∀ turn rest, s.inputs = turn :: rest → turn.inPort = true

/-- R13: a pending command completes: after the turns listed and one more step the engine is not busy. That the engine
moves when no turn is left is the model's form of the spec's fairness (log entry 8). -/
def Obligations.PendingCommandCompletes : Prop :=
  ∀ s : State, (∀ turn ∈ s.inputs, turn.inPort = true) →
    ∃ t, runSteps (s.inputs.length + 1) s = .next t ∧ t.busy = false ∧ t.inputs = []

/-- R107: the final state does not depend on when `Complete` happens: any host turns taken while the command is pending,
then the completion, give what the completion at once gives, but for what the host has read. -/
def Obligations.CompletionTimeDoesNotMatter : Prop :=
  ∀ (s : State) (us : List Turn), s.busy = true → (∀ turn ∈ us, turn.isHost = true) →
    ∃ log, runSteps (us.length + 1) (setInputs (us ++ [.engine]) s) =
      .next (setLog (log ++ s.hostLog) (setInputs [] (complete s))) ∧ log.length ≤ us.length

/-- R18, R19, R24: no read of the host depends on `P`, `S` or the key buffer. -/
def Obligations.HostReadsRevealNoSecret : Prop :=
  ∀ (s s' : State) (us : List Turn), (∀ turn ∈ us, ∃ n, turn = .hostRead n) →
    (∃ P S key, s' = { s with P := P, S := S, key := key }) →
    ∀ t t', runSteps us.length (setInputs us s) = .next t → runSteps us.length (setInputs us s') = .next t' →
      t'.hostLog = t.hostLog

/-! ### The micro-steps of the sequencer -/

/-- R102: the 18 micro-steps of a pending transform, from its acceptance, end where `Complete` ends. That there are 18,
the write-back standing inside the micro-step of `SEQ.t = 17`, is the model's reading (log entry 14). -/
def Obligations.MicroStepsRefineTheTransform : Prop :=
  ∀ s : State, s.busy = true → s.pending = .enc ∨ s.pending = .dec → AtStart s →
    (microSteps 18 s).forgetScratch = (complete s).forgetScratch ∧ ∀ k, k < 18 → (microSteps k s).busy = true

/-- R79: the micro-steps of a pending key expansion, from its acceptance, end where `Complete` ends: 1042 seed words, 18
key words, 521 encryptions of 18 steps. The count, each write-back standing inside the micro-step of `SEQ.t = 17`, and the
start at `KX_INIT` at acceptance are the model's reading (log entries 14 and 13). -/
def Obligations.MicroStepsRefineKeyExpansion : Prop :=
  ∀ (s : State) (n : KeyLength), s.busy = true → s.pending = .kx n → AtStart s →
    (microSteps (1042 + 18 + 521 * 18) s).forgetScratch = (complete s).forgetScratch

/-- R79, R102: no intermediate state is observable: a micro-step that does not end the command changes nothing a host can
read, nor the operands, and the engine stays busy. -/
def Obligations.MicroStepsAreInvisible : Prop :=
  ∀ s : State, Coherent s → s.busy = true → (microStep s).busy = true →
    (∀ r : Reg, readReg (microStep s) r = readReg s r) ∧ SameKey s (microStep s) ∧ SameBlocks s (microStep s) ∧
    (microStep s).pending = s.pending ∧ SameHost s (microStep s)

/-! ### The document's operations as host sequences -/

/-- R68: `construct(key)` builds the instance of the key for every key of 4 to 56 bytes, from every state and for every
length of the waits; for any other length it ends with `InvalidLength` and no instance. What a wait is, is the model's
form (log entry 21). Keys of `2^32` bytes or more are left out: their length does not fit `KEYLEN` and the spec does not
say what the host then writes (log entry 24). -/
def Obligations.ConstructBuildsTheKeysInstance : Prop :=
  ∀ (s : State) (key : List Byte) (polls polls' : Nat), key.length < 2 ^ 32 →
    ∃ t, runSteps (constructTurns polls polls' key).length (setInputs (constructTurns polls polls' key) s) = .next t ∧
      t.busy = false ∧
      (∀ n : KeyLength, n.val = key.length → t.valid = true ∧ t.hostLog.head? = some (1, 0x00000002#32) ∧
        ∀ buffer : KeyBuffer, (∀ k : Fin 56, k.val < n.val → some buffer[k] = key[k.val]?) →
          t.P = (expandKey buffer n).P ∧ t.S = (expandKey buffer n).S) ∧
      (key.length < 4 ∨ 56 < key.length → t.valid = false ∧ t.hostLog.head? = some (1, 0x00000100#32))

/-- R68: `encrypt_block(blk)` and `decrypt_block(blk)` return the transform of the block under the instance, first half
first. What a wait is, is the model's form (log entry 21). -/
def Obligations.TransformSequenceReturnsTheBlock : Prop :=
  ∀ (s : State) (blk : Vector Byte 8) (polls polls' : Nat), s.busy = false → s.valid = true →
    (∃ t, runSteps (transformTurns .encrypt polls polls' blk).length
        (setInputs (transformTurns .encrypt polls polls' blk) s) = .next t ∧
      t.hostLog.take 2 = [(7, (encryptBlock s.P s.S (blockOfBytes blk)).R), (6, (encryptBlock s.P s.S (blockOfBytes blk)).L)]) ∧
    (∃ t, runSteps (transformTurns .decrypt polls polls' blk).length
        (setInputs (transformTurns .decrypt polls polls' blk) s) = .next t ∧
      t.hostLog.take 2 = [(7, (decryptBlock s.P s.S (blockOfBytes blk)).R), (6, (decryptBlock s.P s.S (blockOfBytes blk)).L)])

/-- R68: `construct56(key)` builds the instance of a key of 56 bytes without a length check, from every state.
What a wait is, is the model's form (log entry 21). -/
def Obligations.Construct56BuildsTheKeysInstance : Prop :=
  ∀ (s : State) (key : Vector Byte 56) (polls polls' : Nat),
    ∃ t, runSteps (construct56Turns polls polls' key).length (setInputs (construct56Turns polls polls' key) s) = .next t ∧
      t.busy = false ∧ t.valid = true ∧ t.hostLog.head? = some (1, 0x00000002#32) ∧
      t.P = (expandKey key fullLength).P ∧ t.S = (expandKey key fullLength).S

/-- R68: `drop(cipher)` ends the instance and leaves every key, block and table entry 0, from every state: what was
pending completes in the wait and is then destroyed. What a wait is, and so that the completion falls in it, is the
model's form (log entry 21). -/
def Obligations.DropSequenceErasesEverything : Prop :=
  ∀ (s : State) (polls : Nat),
    ∃ t, runSteps (dropTurns polls).length (setInputs (dropTurns polls) s) = .next t ∧
      t.lifecycle = .empty ∧ t.err = .none ∧ (∀ i, readP t.P i = 0#32) ∧ (∀ b j, readS t.S b j = 0#32) ∧
      (∀ (k : Nat) (h : k < 56), t.key[k] = 0#8) ∧ t.keylen = 0#32 ∧
      t.dinL = 0#32 ∧ t.dinR = 0#32 ∧ t.doutL = 0#32 ∧ t.doutR = 0#32
end

