-- ==== Sys2Proof/Laws/Operands.lean ====
section
/-! SUPPORT. Laws/Operands.lean: the small lemmas of operand assembly: bytes and words, the length test, the register
numbers, and reads after writes of the tables and of the key buffer. -/

namespace Sys2Proof.Machine

/-! ### Bytes and words -/

theorem be32_toNat (a b c d : Byte) :
    (be32 a b c d).toNat = a.toNat * 2 ^ 24 + b.toNat * 2 ^ 16 + c.toNat * 2 ^ 8 + d.toNat := by
  simp [be32, Nat.shiftLeft_eq]
  omega

theorem byteOf_toNat (k : Fin 4) (x : Word) : (byteOf k x).toNat = x.toNat / 2 ^ (24 - 8 * k.val) % 256 := by
  simp [byteOf, Nat.shiftRight_eq_div_pow]

@[simp] theorem byteOf_zero_be32 (a b c d : Byte) : byteOf 0 (be32 a b c d) = a := by
  apply BitVec.eq_of_toNat_eq
  rw [byteOf_toNat, be32_toNat, show (0 : Fin 4).val = 0 from rfl]
  omega

@[simp] theorem byteOf_one_be32 (a b c d : Byte) : byteOf 1 (be32 a b c d) = b := by
  apply BitVec.eq_of_toNat_eq
  rw [byteOf_toNat, be32_toNat, show (1 : Fin 4).val = 1 from rfl]
  omega

@[simp] theorem byteOf_two_be32 (a b c d : Byte) : byteOf 2 (be32 a b c d) = c := by
  apply BitVec.eq_of_toNat_eq
  rw [byteOf_toNat, be32_toNat, show (2 : Fin 4).val = 2 from rfl]
  omega

@[simp] theorem byteOf_three_be32 (a b c d : Byte) : byteOf 3 (be32 a b c d) = d := by
  apply BitVec.eq_of_toNat_eq
  rw [byteOf_toNat, be32_toNat, show (3 : Fin 4).val = 3 from rfl]
  omega

@[simp] theorem be32_byteOf (x : Word) : be32 (byteOf 0 x) (byteOf 1 x) (byteOf 2 x) (byteOf 3 x) = x := by
  apply BitVec.eq_of_toNat_eq
  rw [be32_toNat]
  simp only [byteOf_toNat, show (0 : Fin 4).val = 0 from rfl, show (1 : Fin 4).val = 1 from rfl,
    show (2 : Fin 4).val = 2 from rfl, show (3 : Fin 4).val = 3 from rfl]
  omega

/-! ### The key -/

theorem keyByte_mod (key : KeyBuffer) (n : KeyLength) (k : Nat) : keyByte key n (k % n.val) = keyByte key n k := by
  simp [keyByte]

theorem keyByte_of_lt (key : KeyBuffer) (n : KeyLength) {k : Nat} (h : k < n.val) :
    keyByte key n k = key[k]'(Nat.lt_of_lt_of_le h n.le_fiftySix) := by
  simp [keyByte, Nat.mod_eq_of_lt h]

theorem acceptedLength_eq_some {w : Word} {n : KeyLength} : acceptedLength w = some n ↔ w.toNat = n.val := by
  unfold acceptedLength
  split
  · simp only [Option.some.injEq]
    exact ⟨fun h => by rw [← h], fun h => by cases n; simp_all⟩
  · rename_i h
    have := n.ge_four
    have := n.le_fiftySix
    simp only [reduceCtorEq, false_iff]
    omega

theorem acceptedLength_eq_none {w : Word} : acceptedLength w = none ↔ w.toNat < 4 ∨ 56 < w.toNat := by
  unfold acceptedLength
  split <;> simp <;> omega

/-- A write of `KEYWj` changes the four bytes `4j .. 4j+3` and no other (R24). -/
theorem getElem_writeKeyWord (j : Fin 14) (v : Word) (s : State) (k : Nat) (hk : k < 56) :
    (writeKeyWord j v s).key[k] = if k / 4 = j.val then byteOf (Fin.ofNat 4 k) v else s.key[k] := by
  simp only [writeKeyWord, Vector.getElem_set]
  have hj := j.isLt
  by_cases h : k / 4 = j.val
  · have h4 : k = 4 * j.val ∨ k = 4 * j.val + 1 ∨ k = 4 * j.val + 2 ∨ k = 4 * j.val + 3 := by omega
    rcases h4 with h4 | h4 | h4 | h4 <;> subst h4 <;> simp [h] <;> congr 1 <;> apply Fin.ext <;> simp <;> omega
  · rw [if_neg h, if_neg (by omega), if_neg (by omega), if_neg (by omega), if_neg (by omega)]

/-! ### Register numbers -/

theorem regOfNumber_eq_none {n : Nat} : regOfNumber n = none ↔ 31 < n := by
  unfold regOfNumber
  repeat' split
  all_goals simp
  all_goals omega

theorem regOfNumber_keyw (j : Fin 14) : regOfNumber (8 + j.val) = some (.keyw j) := by
  revert j
  decide

@[simp] theorem regOfNumber_zero : regOfNumber 0 = some .cmd := rfl
@[simp] theorem regOfNumber_one : regOfNumber 1 = some .status := rfl
@[simp] theorem regOfNumber_two : regOfNumber 2 = some .keylen := rfl
@[simp] theorem regOfNumber_four : regOfNumber 4 = some .dinL := rfl
@[simp] theorem regOfNumber_five : regOfNumber 5 = some .dinR := rfl
@[simp] theorem regOfNumber_six : regOfNumber 6 = some .doutL := rfl
@[simp] theorem regOfNumber_seven : regOfNumber 7 = some .doutR := rfl

/-- Only number 0 is `CMD`. -/
theorem regOfNumber_eq_cmd {n : Nat} : regOfNumber n = some .cmd ↔ n = 0 := by
  unfold regOfNumber
  repeat' split
  all_goals simp_all

/-! ### Tables: a read after a write -/

@[simp] theorem readP_writeP_same (P : PArray) (i : Fin 18) (v : Word) : readP (writeP P i v) i = v := by
  simp [readP, writeP]

theorem readP_writeP (P : PArray) (i j : Fin 18) (v : Word) :
    readP (writeP P i v) j = if i = j then v else readP P j := by
  simp [readP, writeP, Vector.getElem_set, Fin.ext_iff]

@[simp] theorem readS_writeS_same (S : SBoxes) (b : Fin 4) (j : Fin 256) (v : Word) :
    readS (writeS S b j v) b j = v := by
  simp [readS, writeS]

theorem readS_writeS (S : SBoxes) (b c : Fin 4) (j k : Fin 256) (v : Word) :
    readS (writeS S b j v) c k = if b = c ∧ j = k then v else readS S c k := by
  simp only [readS, writeS, Vector.getElem_set, Fin.ext_iff]
  by_cases h : b.val = c.val
  · have : b = c := Fin.ext h
    subst this
    simp [Vector.getElem_set]
  · simp [h]

/-- Two permutation arrays with the same words are the same. -/
theorem PArray.ext_read {P Q : PArray} (h : ∀ i, readP P i = readP Q i) : P = Q := by
  apply Vector.ext
  intro i hi
  exact h ⟨i, hi⟩

/-- Two sets of boxes with the same words are the same. -/
theorem SBoxes.ext_read {S T : SBoxes} (h : ∀ b j, readS S b j = readS T b j) : S = T := by
  apply Vector.ext
  intro b hb
  apply Vector.ext
  intro j hj
  exact h ⟨b, hb⟩ ⟨j, hj⟩

end Sys2Proof.Machine
end

