-- ==== Sys2Proof/Laws/State.lean ====
section
/-! SUPPORT. Laws/State.lean: for each named update of the state, what every field holds afterwards, one lemma per field,
true by rfl and tagged @[simp], so that no later proof unfolds a record update. -/

namespace Sys2Proof.Machine

variable (s : State)

/-! ### `raise` -/

@[simp] theorem raise_P (e : ErrCode) : (raise e s).P = s.P := rfl
@[simp] theorem raise_S (e : ErrCode) : (raise e s).S = s.S := rfl
@[simp] theorem raise_valid (e : ErrCode) : (raise e s).valid = s.valid := rfl
@[simp] theorem raise_busy (e : ErrCode) : (raise e s).busy = s.busy := rfl
@[simp] theorem raise_err (e : ErrCode) : (raise e s).err = e := rfl
@[simp] theorem raise_pending (e : ErrCode) : (raise e s).pending = s.pending := rfl
@[simp] theorem raise_key (e : ErrCode) : (raise e s).key = s.key := rfl
@[simp] theorem raise_keylen (e : ErrCode) : (raise e s).keylen = s.keylen := rfl
@[simp] theorem raise_dinL (e : ErrCode) : (raise e s).dinL = s.dinL := rfl
@[simp] theorem raise_dinR (e : ErrCode) : (raise e s).dinR = s.dinR := rfl
@[simp] theorem raise_doutL (e : ErrCode) : (raise e s).doutL = s.doutL := rfl
@[simp] theorem raise_doutR (e : ErrCode) : (raise e s).doutR = s.doutR := rfl
@[simp] theorem raise_seqPhase (e : ErrCode) : (raise e s).seqPhase = s.seqPhase := rfl
@[simp] theorem raise_seqI (e : ErrCode) : (raise e s).seqI = s.seqI := rfl
@[simp] theorem raise_seqT (e : ErrCode) : (raise e s).seqT = s.seqT := rfl
@[simp] theorem raise_workL (e : ErrCode) : (raise e s).workL = s.workL := rfl
@[simp] theorem raise_workR (e : ErrCode) : (raise e s).workR = s.workR := rfl
@[simp] theorem raise_draws (e : ErrCode) : (raise e s).draws = s.draws := rfl
@[simp] theorem raise_inputs (e : ErrCode) : (raise e s).inputs = s.inputs := rfl
@[simp] theorem raise_hostLog (e : ErrCode) : (raise e s).hostLog = s.hostLog := rfl

/-! ### `endInstance` -/

@[simp] theorem endInstance_P : (endInstance s).P = s.P := rfl
@[simp] theorem endInstance_S : (endInstance s).S = s.S := rfl
@[simp] theorem endInstance_valid : (endInstance s).valid = false := rfl
@[simp] theorem endInstance_busy : (endInstance s).busy = s.busy := rfl
@[simp] theorem endInstance_err : (endInstance s).err = s.err := rfl
@[simp] theorem endInstance_pending : (endInstance s).pending = s.pending := rfl
@[simp] theorem endInstance_key : (endInstance s).key = s.key := rfl
@[simp] theorem endInstance_keylen : (endInstance s).keylen = s.keylen := rfl
@[simp] theorem endInstance_dinL : (endInstance s).dinL = s.dinL := rfl
@[simp] theorem endInstance_dinR : (endInstance s).dinR = s.dinR := rfl
@[simp] theorem endInstance_doutL : (endInstance s).doutL = s.doutL := rfl
@[simp] theorem endInstance_doutR : (endInstance s).doutR = s.doutR := rfl
@[simp] theorem endInstance_seqPhase : (endInstance s).seqPhase = s.seqPhase := rfl
@[simp] theorem endInstance_seqI : (endInstance s).seqI = s.seqI := rfl
@[simp] theorem endInstance_seqT : (endInstance s).seqT = s.seqT := rfl
@[simp] theorem endInstance_workL : (endInstance s).workL = s.workL := rfl
@[simp] theorem endInstance_workR : (endInstance s).workR = s.workR := rfl
@[simp] theorem endInstance_draws : (endInstance s).draws = s.draws := rfl
@[simp] theorem endInstance_inputs : (endInstance s).inputs = s.inputs := rfl
@[simp] theorem endInstance_hostLog : (endInstance s).hostLog = s.hostLog := rfl

/-! ### `destroy` -/

@[simp] theorem destroy_P : (destroy s).P = Vector.replicate 18 0#32 := rfl
@[simp] theorem destroy_S : (destroy s).S = Vector.replicate 4 (Vector.replicate 256 0#32) := rfl
@[simp] theorem destroy_valid : (destroy s).valid = false := rfl
@[simp] theorem destroy_busy : (destroy s).busy = s.busy := rfl
@[simp] theorem destroy_err : (destroy s).err = s.err := rfl
@[simp] theorem destroy_pending : (destroy s).pending = s.pending := rfl
@[simp] theorem destroy_key : (destroy s).key = s.key := rfl
@[simp] theorem destroy_keylen : (destroy s).keylen = s.keylen := rfl
@[simp] theorem destroy_dinL : (destroy s).dinL = s.dinL := rfl
@[simp] theorem destroy_dinR : (destroy s).dinR = s.dinR := rfl
@[simp] theorem destroy_doutL : (destroy s).doutL = s.doutL := rfl
@[simp] theorem destroy_doutR : (destroy s).doutR = s.doutR := rfl
@[simp] theorem destroy_seqPhase : (destroy s).seqPhase = s.seqPhase := rfl
@[simp] theorem destroy_seqI : (destroy s).seqI = s.seqI := rfl
@[simp] theorem destroy_seqT : (destroy s).seqT = s.seqT := rfl
@[simp] theorem destroy_workL : (destroy s).workL = s.workL := rfl
@[simp] theorem destroy_workR : (destroy s).workR = s.workR := rfl
@[simp] theorem destroy_draws : (destroy s).draws = s.draws := rfl
@[simp] theorem destroy_inputs : (destroy s).inputs = s.inputs := rfl
@[simp] theorem destroy_hostLog : (destroy s).hostLog = s.hostLog := rfl

/-! ### `clearKey` -/

@[simp] theorem clearKey_P : (clearKey s).P = s.P := rfl
@[simp] theorem clearKey_S : (clearKey s).S = s.S := rfl
@[simp] theorem clearKey_valid : (clearKey s).valid = s.valid := rfl
@[simp] theorem clearKey_busy : (clearKey s).busy = s.busy := rfl
@[simp] theorem clearKey_err : (clearKey s).err = s.err := rfl
@[simp] theorem clearKey_pending : (clearKey s).pending = s.pending := rfl
@[simp] theorem clearKey_key : (clearKey s).key = Vector.replicate 56 0#8 := rfl
@[simp] theorem clearKey_keylen : (clearKey s).keylen = 0#32 := rfl
@[simp] theorem clearKey_dinL : (clearKey s).dinL = s.dinL := rfl
@[simp] theorem clearKey_dinR : (clearKey s).dinR = s.dinR := rfl
@[simp] theorem clearKey_doutL : (clearKey s).doutL = s.doutL := rfl
@[simp] theorem clearKey_doutR : (clearKey s).doutR = s.doutR := rfl
@[simp] theorem clearKey_seqPhase : (clearKey s).seqPhase = s.seqPhase := rfl
@[simp] theorem clearKey_seqI : (clearKey s).seqI = s.seqI := rfl
@[simp] theorem clearKey_seqT : (clearKey s).seqT = s.seqT := rfl
@[simp] theorem clearKey_workL : (clearKey s).workL = s.workL := rfl
@[simp] theorem clearKey_workR : (clearKey s).workR = s.workR := rfl
@[simp] theorem clearKey_draws : (clearKey s).draws = s.draws := rfl
@[simp] theorem clearKey_inputs : (clearKey s).inputs = s.inputs := rfl
@[simp] theorem clearKey_hostLog : (clearKey s).hostLog = s.hostLog := rfl

/-! ### `clearBlocks` -/

@[simp] theorem clearBlocks_P : (clearBlocks s).P = s.P := rfl
@[simp] theorem clearBlocks_S : (clearBlocks s).S = s.S := rfl
@[simp] theorem clearBlocks_valid : (clearBlocks s).valid = s.valid := rfl
@[simp] theorem clearBlocks_busy : (clearBlocks s).busy = s.busy := rfl
@[simp] theorem clearBlocks_err : (clearBlocks s).err = s.err := rfl
@[simp] theorem clearBlocks_pending : (clearBlocks s).pending = s.pending := rfl
@[simp] theorem clearBlocks_key : (clearBlocks s).key = s.key := rfl
@[simp] theorem clearBlocks_keylen : (clearBlocks s).keylen = s.keylen := rfl
@[simp] theorem clearBlocks_dinL : (clearBlocks s).dinL = 0#32 := rfl
@[simp] theorem clearBlocks_dinR : (clearBlocks s).dinR = 0#32 := rfl
@[simp] theorem clearBlocks_doutL : (clearBlocks s).doutL = 0#32 := rfl
@[simp] theorem clearBlocks_doutR : (clearBlocks s).doutR = 0#32 := rfl
@[simp] theorem clearBlocks_seqPhase : (clearBlocks s).seqPhase = s.seqPhase := rfl
@[simp] theorem clearBlocks_seqI : (clearBlocks s).seqI = s.seqI := rfl
@[simp] theorem clearBlocks_seqT : (clearBlocks s).seqT = s.seqT := rfl
@[simp] theorem clearBlocks_workL : (clearBlocks s).workL = s.workL := rfl
@[simp] theorem clearBlocks_workR : (clearBlocks s).workR = s.workR := rfl
@[simp] theorem clearBlocks_draws : (clearBlocks s).draws = s.draws := rfl
@[simp] theorem clearBlocks_inputs : (clearBlocks s).inputs = s.inputs := rfl
@[simp] theorem clearBlocks_hostLog : (clearBlocks s).hostLog = s.hostLog := rfl

/-! ### `installInstance` -/

@[simp] theorem installInstance_P (c : CipherState) : (installInstance c s).P = c.P := rfl
@[simp] theorem installInstance_S (c : CipherState) : (installInstance c s).S = c.S := rfl
@[simp] theorem installInstance_valid (c : CipherState) : (installInstance c s).valid = true := rfl
@[simp] theorem installInstance_busy (c : CipherState) : (installInstance c s).busy = s.busy := rfl
@[simp] theorem installInstance_err (c : CipherState) : (installInstance c s).err = s.err := rfl
@[simp] theorem installInstance_pending (c : CipherState) : (installInstance c s).pending = s.pending := rfl
@[simp] theorem installInstance_key (c : CipherState) : (installInstance c s).key = s.key := rfl
@[simp] theorem installInstance_keylen (c : CipherState) : (installInstance c s).keylen = s.keylen := rfl
@[simp] theorem installInstance_dinL (c : CipherState) : (installInstance c s).dinL = s.dinL := rfl
@[simp] theorem installInstance_dinR (c : CipherState) : (installInstance c s).dinR = s.dinR := rfl
@[simp] theorem installInstance_doutL (c : CipherState) : (installInstance c s).doutL = s.doutL := rfl
@[simp] theorem installInstance_doutR (c : CipherState) : (installInstance c s).doutR = s.doutR := rfl
@[simp] theorem installInstance_seqPhase (c : CipherState) : (installInstance c s).seqPhase = s.seqPhase := rfl
@[simp] theorem installInstance_seqI (c : CipherState) : (installInstance c s).seqI = s.seqI := rfl
@[simp] theorem installInstance_seqT (c : CipherState) : (installInstance c s).seqT = s.seqT := rfl
@[simp] theorem installInstance_workL (c : CipherState) : (installInstance c s).workL = s.workL := rfl
@[simp] theorem installInstance_workR (c : CipherState) : (installInstance c s).workR = s.workR := rfl
@[simp] theorem installInstance_draws (c : CipherState) : (installInstance c s).draws = s.draws := rfl
@[simp] theorem installInstance_inputs (c : CipherState) : (installInstance c s).inputs = s.inputs := rfl
@[simp] theorem installInstance_hostLog (c : CipherState) : (installInstance c s).hostLog = s.hostLog := rfl

/-! ### `deliver` -/

@[simp] theorem deliver_P (b : Block) : (deliver b s).P = s.P := rfl
@[simp] theorem deliver_S (b : Block) : (deliver b s).S = s.S := rfl
@[simp] theorem deliver_valid (b : Block) : (deliver b s).valid = s.valid := rfl
@[simp] theorem deliver_busy (b : Block) : (deliver b s).busy = s.busy := rfl
@[simp] theorem deliver_err (b : Block) : (deliver b s).err = s.err := rfl
@[simp] theorem deliver_pending (b : Block) : (deliver b s).pending = s.pending := rfl
@[simp] theorem deliver_key (b : Block) : (deliver b s).key = s.key := rfl
@[simp] theorem deliver_keylen (b : Block) : (deliver b s).keylen = s.keylen := rfl
@[simp] theorem deliver_dinL (b : Block) : (deliver b s).dinL = s.dinL := rfl
@[simp] theorem deliver_dinR (b : Block) : (deliver b s).dinR = s.dinR := rfl
@[simp] theorem deliver_doutL (b : Block) : (deliver b s).doutL = b.L := rfl
@[simp] theorem deliver_doutR (b : Block) : (deliver b s).doutR = b.R := rfl
@[simp] theorem deliver_seqPhase (b : Block) : (deliver b s).seqPhase = s.seqPhase := rfl
@[simp] theorem deliver_seqI (b : Block) : (deliver b s).seqI = s.seqI := rfl
@[simp] theorem deliver_seqT (b : Block) : (deliver b s).seqT = s.seqT := rfl
@[simp] theorem deliver_workL (b : Block) : (deliver b s).workL = s.workL := rfl
@[simp] theorem deliver_workR (b : Block) : (deliver b s).workR = s.workR := rfl
@[simp] theorem deliver_draws (b : Block) : (deliver b s).draws = s.draws := rfl
@[simp] theorem deliver_inputs (b : Block) : (deliver b s).inputs = s.inputs := rfl
@[simp] theorem deliver_hostLog (b : Block) : (deliver b s).hostLog = s.hostLog := rfl

/-! ### `finish` -/

@[simp] theorem finish_P : (finish s).P = s.P := rfl
@[simp] theorem finish_S : (finish s).S = s.S := rfl
@[simp] theorem finish_valid : (finish s).valid = s.valid := rfl
@[simp] theorem finish_busy : (finish s).busy = false := rfl
@[simp] theorem finish_err : (finish s).err = s.err := rfl
@[simp] theorem finish_pending : (finish s).pending = .none := rfl
@[simp] theorem finish_key : (finish s).key = s.key := rfl
@[simp] theorem finish_keylen : (finish s).keylen = s.keylen := rfl
@[simp] theorem finish_dinL : (finish s).dinL = s.dinL := rfl
@[simp] theorem finish_dinR : (finish s).dinR = s.dinR := rfl
@[simp] theorem finish_doutL : (finish s).doutL = s.doutL := rfl
@[simp] theorem finish_doutR : (finish s).doutR = s.doutR := rfl
@[simp] theorem finish_seqPhase : (finish s).seqPhase = .idle := rfl
@[simp] theorem finish_seqI : (finish s).seqI = Config.freeSeqI s.draws := rfl
@[simp] theorem finish_seqT : (finish s).seqT = Config.freeSeqT s.draws := rfl
@[simp] theorem finish_workL : (finish s).workL = Config.freeWord s.draws := rfl
@[simp] theorem finish_workR : (finish s).workR = Config.freeWord (s.draws + 1) := rfl
@[simp] theorem finish_draws : (finish s).draws = s.draws + 2 := rfl
@[simp] theorem finish_inputs : (finish s).inputs = s.inputs := rfl
@[simp] theorem finish_hostLog : (finish s).hostLog = s.hostLog := rfl

/-! ### `logRead` -/

@[simp] theorem logRead_P (n : Nat) (v : Word) : (logRead n v s).P = s.P := rfl
@[simp] theorem logRead_S (n : Nat) (v : Word) : (logRead n v s).S = s.S := rfl
@[simp] theorem logRead_valid (n : Nat) (v : Word) : (logRead n v s).valid = s.valid := rfl
@[simp] theorem logRead_busy (n : Nat) (v : Word) : (logRead n v s).busy = s.busy := rfl
@[simp] theorem logRead_err (n : Nat) (v : Word) : (logRead n v s).err = s.err := rfl
@[simp] theorem logRead_pending (n : Nat) (v : Word) : (logRead n v s).pending = s.pending := rfl
@[simp] theorem logRead_key (n : Nat) (v : Word) : (logRead n v s).key = s.key := rfl
@[simp] theorem logRead_keylen (n : Nat) (v : Word) : (logRead n v s).keylen = s.keylen := rfl
@[simp] theorem logRead_dinL (n : Nat) (v : Word) : (logRead n v s).dinL = s.dinL := rfl
@[simp] theorem logRead_dinR (n : Nat) (v : Word) : (logRead n v s).dinR = s.dinR := rfl
@[simp] theorem logRead_doutL (n : Nat) (v : Word) : (logRead n v s).doutL = s.doutL := rfl
@[simp] theorem logRead_doutR (n : Nat) (v : Word) : (logRead n v s).doutR = s.doutR := rfl
@[simp] theorem logRead_seqPhase (n : Nat) (v : Word) : (logRead n v s).seqPhase = s.seqPhase := rfl
@[simp] theorem logRead_seqI (n : Nat) (v : Word) : (logRead n v s).seqI = s.seqI := rfl
@[simp] theorem logRead_seqT (n : Nat) (v : Word) : (logRead n v s).seqT = s.seqT := rfl
@[simp] theorem logRead_workL (n : Nat) (v : Word) : (logRead n v s).workL = s.workL := rfl
@[simp] theorem logRead_workR (n : Nat) (v : Word) : (logRead n v s).workR = s.workR := rfl
@[simp] theorem logRead_draws (n : Nat) (v : Word) : (logRead n v s).draws = s.draws := rfl
@[simp] theorem logRead_inputs (n : Nat) (v : Word) : (logRead n v s).inputs = s.inputs := rfl
@[simp] theorem logRead_hostLog (n : Nat) (v : Word) : (logRead n v s).hostLog = (n, v) :: s.hostLog := rfl

/-! ### `setKeylen` -/

@[simp] theorem setKeylen_P (v : Word) : (setKeylen v s).P = s.P := rfl
@[simp] theorem setKeylen_S (v : Word) : (setKeylen v s).S = s.S := rfl
@[simp] theorem setKeylen_valid (v : Word) : (setKeylen v s).valid = s.valid := rfl
@[simp] theorem setKeylen_busy (v : Word) : (setKeylen v s).busy = s.busy := rfl
@[simp] theorem setKeylen_err (v : Word) : (setKeylen v s).err = s.err := rfl
@[simp] theorem setKeylen_pending (v : Word) : (setKeylen v s).pending = s.pending := rfl
@[simp] theorem setKeylen_key (v : Word) : (setKeylen v s).key = s.key := rfl
@[simp] theorem setKeylen_keylen (v : Word) : (setKeylen v s).keylen = v := rfl
@[simp] theorem setKeylen_dinL (v : Word) : (setKeylen v s).dinL = s.dinL := rfl
@[simp] theorem setKeylen_dinR (v : Word) : (setKeylen v s).dinR = s.dinR := rfl
@[simp] theorem setKeylen_doutL (v : Word) : (setKeylen v s).doutL = s.doutL := rfl
@[simp] theorem setKeylen_doutR (v : Word) : (setKeylen v s).doutR = s.doutR := rfl
@[simp] theorem setKeylen_seqPhase (v : Word) : (setKeylen v s).seqPhase = s.seqPhase := rfl
@[simp] theorem setKeylen_seqI (v : Word) : (setKeylen v s).seqI = s.seqI := rfl
@[simp] theorem setKeylen_seqT (v : Word) : (setKeylen v s).seqT = s.seqT := rfl
@[simp] theorem setKeylen_workL (v : Word) : (setKeylen v s).workL = s.workL := rfl
@[simp] theorem setKeylen_workR (v : Word) : (setKeylen v s).workR = s.workR := rfl
@[simp] theorem setKeylen_draws (v : Word) : (setKeylen v s).draws = s.draws := rfl
@[simp] theorem setKeylen_inputs (v : Word) : (setKeylen v s).inputs = s.inputs := rfl
@[simp] theorem setKeylen_hostLog (v : Word) : (setKeylen v s).hostLog = s.hostLog := rfl

/-! ### `setDinL` -/

@[simp] theorem setDinL_P (v : Word) : (setDinL v s).P = s.P := rfl
@[simp] theorem setDinL_S (v : Word) : (setDinL v s).S = s.S := rfl
@[simp] theorem setDinL_valid (v : Word) : (setDinL v s).valid = s.valid := rfl
@[simp] theorem setDinL_busy (v : Word) : (setDinL v s).busy = s.busy := rfl
@[simp] theorem setDinL_err (v : Word) : (setDinL v s).err = s.err := rfl
@[simp] theorem setDinL_pending (v : Word) : (setDinL v s).pending = s.pending := rfl
@[simp] theorem setDinL_key (v : Word) : (setDinL v s).key = s.key := rfl
@[simp] theorem setDinL_keylen (v : Word) : (setDinL v s).keylen = s.keylen := rfl
@[simp] theorem setDinL_dinL (v : Word) : (setDinL v s).dinL = v := rfl
@[simp] theorem setDinL_dinR (v : Word) : (setDinL v s).dinR = s.dinR := rfl
@[simp] theorem setDinL_doutL (v : Word) : (setDinL v s).doutL = s.doutL := rfl
@[simp] theorem setDinL_doutR (v : Word) : (setDinL v s).doutR = s.doutR := rfl
@[simp] theorem setDinL_seqPhase (v : Word) : (setDinL v s).seqPhase = s.seqPhase := rfl
@[simp] theorem setDinL_seqI (v : Word) : (setDinL v s).seqI = s.seqI := rfl
@[simp] theorem setDinL_seqT (v : Word) : (setDinL v s).seqT = s.seqT := rfl
@[simp] theorem setDinL_workL (v : Word) : (setDinL v s).workL = s.workL := rfl
@[simp] theorem setDinL_workR (v : Word) : (setDinL v s).workR = s.workR := rfl
@[simp] theorem setDinL_draws (v : Word) : (setDinL v s).draws = s.draws := rfl
@[simp] theorem setDinL_inputs (v : Word) : (setDinL v s).inputs = s.inputs := rfl
@[simp] theorem setDinL_hostLog (v : Word) : (setDinL v s).hostLog = s.hostLog := rfl

/-! ### `setDinR` -/

@[simp] theorem setDinR_P (v : Word) : (setDinR v s).P = s.P := rfl
@[simp] theorem setDinR_S (v : Word) : (setDinR v s).S = s.S := rfl
@[simp] theorem setDinR_valid (v : Word) : (setDinR v s).valid = s.valid := rfl
@[simp] theorem setDinR_busy (v : Word) : (setDinR v s).busy = s.busy := rfl
@[simp] theorem setDinR_err (v : Word) : (setDinR v s).err = s.err := rfl
@[simp] theorem setDinR_pending (v : Word) : (setDinR v s).pending = s.pending := rfl
@[simp] theorem setDinR_key (v : Word) : (setDinR v s).key = s.key := rfl
@[simp] theorem setDinR_keylen (v : Word) : (setDinR v s).keylen = s.keylen := rfl
@[simp] theorem setDinR_dinL (v : Word) : (setDinR v s).dinL = s.dinL := rfl
@[simp] theorem setDinR_dinR (v : Word) : (setDinR v s).dinR = v := rfl
@[simp] theorem setDinR_doutL (v : Word) : (setDinR v s).doutL = s.doutL := rfl
@[simp] theorem setDinR_doutR (v : Word) : (setDinR v s).doutR = s.doutR := rfl
@[simp] theorem setDinR_seqPhase (v : Word) : (setDinR v s).seqPhase = s.seqPhase := rfl
@[simp] theorem setDinR_seqI (v : Word) : (setDinR v s).seqI = s.seqI := rfl
@[simp] theorem setDinR_seqT (v : Word) : (setDinR v s).seqT = s.seqT := rfl
@[simp] theorem setDinR_workL (v : Word) : (setDinR v s).workL = s.workL := rfl
@[simp] theorem setDinR_workR (v : Word) : (setDinR v s).workR = s.workR := rfl
@[simp] theorem setDinR_draws (v : Word) : (setDinR v s).draws = s.draws := rfl
@[simp] theorem setDinR_inputs (v : Word) : (setDinR v s).inputs = s.inputs := rfl
@[simp] theorem setDinR_hostLog (v : Word) : (setDinR v s).hostLog = s.hostLog := rfl

/-! ### `setInputs` -/

@[simp] theorem setInputs_P (us : List Turn) : (setInputs us s).P = s.P := rfl
@[simp] theorem setInputs_S (us : List Turn) : (setInputs us s).S = s.S := rfl
@[simp] theorem setInputs_valid (us : List Turn) : (setInputs us s).valid = s.valid := rfl
@[simp] theorem setInputs_busy (us : List Turn) : (setInputs us s).busy = s.busy := rfl
@[simp] theorem setInputs_err (us : List Turn) : (setInputs us s).err = s.err := rfl
@[simp] theorem setInputs_pending (us : List Turn) : (setInputs us s).pending = s.pending := rfl
@[simp] theorem setInputs_key (us : List Turn) : (setInputs us s).key = s.key := rfl
@[simp] theorem setInputs_keylen (us : List Turn) : (setInputs us s).keylen = s.keylen := rfl
@[simp] theorem setInputs_dinL (us : List Turn) : (setInputs us s).dinL = s.dinL := rfl
@[simp] theorem setInputs_dinR (us : List Turn) : (setInputs us s).dinR = s.dinR := rfl
@[simp] theorem setInputs_doutL (us : List Turn) : (setInputs us s).doutL = s.doutL := rfl
@[simp] theorem setInputs_doutR (us : List Turn) : (setInputs us s).doutR = s.doutR := rfl
@[simp] theorem setInputs_seqPhase (us : List Turn) : (setInputs us s).seqPhase = s.seqPhase := rfl
@[simp] theorem setInputs_seqI (us : List Turn) : (setInputs us s).seqI = s.seqI := rfl
@[simp] theorem setInputs_seqT (us : List Turn) : (setInputs us s).seqT = s.seqT := rfl
@[simp] theorem setInputs_workL (us : List Turn) : (setInputs us s).workL = s.workL := rfl
@[simp] theorem setInputs_workR (us : List Turn) : (setInputs us s).workR = s.workR := rfl
@[simp] theorem setInputs_draws (us : List Turn) : (setInputs us s).draws = s.draws := rfl
@[simp] theorem setInputs_inputs (us : List Turn) : (setInputs us s).inputs = us := rfl
@[simp] theorem setInputs_hostLog (us : List Turn) : (setInputs us s).hostLog = s.hostLog := rfl

/-! ### `setLog` -/

@[simp] theorem setLog_P (log : List (Nat × Word)) : (setLog log s).P = s.P := rfl
@[simp] theorem setLog_S (log : List (Nat × Word)) : (setLog log s).S = s.S := rfl
@[simp] theorem setLog_valid (log : List (Nat × Word)) : (setLog log s).valid = s.valid := rfl
@[simp] theorem setLog_busy (log : List (Nat × Word)) : (setLog log s).busy = s.busy := rfl
@[simp] theorem setLog_err (log : List (Nat × Word)) : (setLog log s).err = s.err := rfl
@[simp] theorem setLog_pending (log : List (Nat × Word)) : (setLog log s).pending = s.pending := rfl
@[simp] theorem setLog_key (log : List (Nat × Word)) : (setLog log s).key = s.key := rfl
@[simp] theorem setLog_keylen (log : List (Nat × Word)) : (setLog log s).keylen = s.keylen := rfl
@[simp] theorem setLog_dinL (log : List (Nat × Word)) : (setLog log s).dinL = s.dinL := rfl
@[simp] theorem setLog_dinR (log : List (Nat × Word)) : (setLog log s).dinR = s.dinR := rfl
@[simp] theorem setLog_doutL (log : List (Nat × Word)) : (setLog log s).doutL = s.doutL := rfl
@[simp] theorem setLog_doutR (log : List (Nat × Word)) : (setLog log s).doutR = s.doutR := rfl
@[simp] theorem setLog_seqPhase (log : List (Nat × Word)) : (setLog log s).seqPhase = s.seqPhase := rfl
@[simp] theorem setLog_seqI (log : List (Nat × Word)) : (setLog log s).seqI = s.seqI := rfl
@[simp] theorem setLog_seqT (log : List (Nat × Word)) : (setLog log s).seqT = s.seqT := rfl
@[simp] theorem setLog_workL (log : List (Nat × Word)) : (setLog log s).workL = s.workL := rfl
@[simp] theorem setLog_workR (log : List (Nat × Word)) : (setLog log s).workR = s.workR := rfl
@[simp] theorem setLog_draws (log : List (Nat × Word)) : (setLog log s).draws = s.draws := rfl
@[simp] theorem setLog_inputs (log : List (Nat × Word)) : (setLog log s).inputs = s.inputs := rfl
@[simp] theorem setLog_hostLog (log : List (Nat × Word)) : (setLog log s).hostLog = log := rfl

/-! ### `setWork` -/

@[simp] theorem setWork_P (b : Block) : (setWork b s).P = s.P := rfl
@[simp] theorem setWork_S (b : Block) : (setWork b s).S = s.S := rfl
@[simp] theorem setWork_valid (b : Block) : (setWork b s).valid = s.valid := rfl
@[simp] theorem setWork_busy (b : Block) : (setWork b s).busy = s.busy := rfl
@[simp] theorem setWork_err (b : Block) : (setWork b s).err = s.err := rfl
@[simp] theorem setWork_pending (b : Block) : (setWork b s).pending = s.pending := rfl
@[simp] theorem setWork_key (b : Block) : (setWork b s).key = s.key := rfl
@[simp] theorem setWork_keylen (b : Block) : (setWork b s).keylen = s.keylen := rfl
@[simp] theorem setWork_dinL (b : Block) : (setWork b s).dinL = s.dinL := rfl
@[simp] theorem setWork_dinR (b : Block) : (setWork b s).dinR = s.dinR := rfl
@[simp] theorem setWork_doutL (b : Block) : (setWork b s).doutL = s.doutL := rfl
@[simp] theorem setWork_doutR (b : Block) : (setWork b s).doutR = s.doutR := rfl
@[simp] theorem setWork_seqPhase (b : Block) : (setWork b s).seqPhase = s.seqPhase := rfl
@[simp] theorem setWork_seqI (b : Block) : (setWork b s).seqI = s.seqI := rfl
@[simp] theorem setWork_seqT (b : Block) : (setWork b s).seqT = s.seqT := rfl
@[simp] theorem setWork_workL (b : Block) : (setWork b s).workL = b.L := rfl
@[simp] theorem setWork_workR (b : Block) : (setWork b s).workR = b.R := rfl
@[simp] theorem setWork_draws (b : Block) : (setWork b s).draws = s.draws := rfl
@[simp] theorem setWork_inputs (b : Block) : (setWork b s).inputs = s.inputs := rfl
@[simp] theorem setWork_hostLog (b : Block) : (setWork b s).hostLog = s.hostLog := rfl

/-! ### `setTables` -/

@[simp] theorem setTables_P (c : CipherState) : (setTables c s).P = c.P := rfl
@[simp] theorem setTables_S (c : CipherState) : (setTables c s).S = c.S := rfl
@[simp] theorem setTables_valid (c : CipherState) : (setTables c s).valid = s.valid := rfl
@[simp] theorem setTables_busy (c : CipherState) : (setTables c s).busy = s.busy := rfl
@[simp] theorem setTables_err (c : CipherState) : (setTables c s).err = s.err := rfl
@[simp] theorem setTables_pending (c : CipherState) : (setTables c s).pending = s.pending := rfl
@[simp] theorem setTables_key (c : CipherState) : (setTables c s).key = s.key := rfl
@[simp] theorem setTables_keylen (c : CipherState) : (setTables c s).keylen = s.keylen := rfl
@[simp] theorem setTables_dinL (c : CipherState) : (setTables c s).dinL = s.dinL := rfl
@[simp] theorem setTables_dinR (c : CipherState) : (setTables c s).dinR = s.dinR := rfl
@[simp] theorem setTables_doutL (c : CipherState) : (setTables c s).doutL = s.doutL := rfl
@[simp] theorem setTables_doutR (c : CipherState) : (setTables c s).doutR = s.doutR := rfl
@[simp] theorem setTables_seqPhase (c : CipherState) : (setTables c s).seqPhase = s.seqPhase := rfl
@[simp] theorem setTables_seqI (c : CipherState) : (setTables c s).seqI = s.seqI := rfl
@[simp] theorem setTables_seqT (c : CipherState) : (setTables c s).seqT = s.seqT := rfl
@[simp] theorem setTables_workL (c : CipherState) : (setTables c s).workL = s.workL := rfl
@[simp] theorem setTables_workR (c : CipherState) : (setTables c s).workR = s.workR := rfl
@[simp] theorem setTables_draws (c : CipherState) : (setTables c s).draws = s.draws := rfl
@[simp] theorem setTables_inputs (c : CipherState) : (setTables c s).inputs = s.inputs := rfl
@[simp] theorem setTables_hostLog (c : CipherState) : (setTables c s).hostLog = s.hostLog := rfl

/-! ### `resetEngine` -/

@[simp] theorem resetEngine_P : (resetEngine s).P = Config.resetP s.draws := rfl
@[simp] theorem resetEngine_S : (resetEngine s).S = Config.resetS s.draws := rfl
@[simp] theorem resetEngine_valid : (resetEngine s).valid = false := rfl
@[simp] theorem resetEngine_busy : (resetEngine s).busy = false := rfl
@[simp] theorem resetEngine_err : (resetEngine s).err = .none := rfl
@[simp] theorem resetEngine_pending : (resetEngine s).pending = .none := rfl
@[simp] theorem resetEngine_key : (resetEngine s).key = Vector.replicate 56 0#8 := rfl
@[simp] theorem resetEngine_keylen : (resetEngine s).keylen = 0#32 := rfl
@[simp] theorem resetEngine_dinL : (resetEngine s).dinL = 0#32 := rfl
@[simp] theorem resetEngine_dinR : (resetEngine s).dinR = 0#32 := rfl
@[simp] theorem resetEngine_doutL : (resetEngine s).doutL = 0#32 := rfl
@[simp] theorem resetEngine_doutR : (resetEngine s).doutR = 0#32 := rfl
@[simp] theorem resetEngine_seqPhase : (resetEngine s).seqPhase = .idle := rfl
@[simp] theorem resetEngine_seqI : (resetEngine s).seqI = Config.freeSeqI (s.draws + 1) := rfl
@[simp] theorem resetEngine_seqT : (resetEngine s).seqT = Config.freeSeqT (s.draws + 1) := rfl
@[simp] theorem resetEngine_workL : (resetEngine s).workL = Config.freeWord (s.draws + 1) := rfl
@[simp] theorem resetEngine_workR : (resetEngine s).workR = Config.freeWord (s.draws + 1 + 1) := rfl
@[simp] theorem resetEngine_draws : (resetEngine s).draws = s.draws + 1 + 2 := rfl
@[simp] theorem resetEngine_inputs : (resetEngine s).inputs = s.inputs := rfl
@[simp] theorem resetEngine_hostLog : (resetEngine s).hostLog = s.hostLog := rfl

/-! ### `writeKeyWord`: only the key buffer changes (its bytes: `getElem_writeKeyWord` of Laws/Operands.lean) -/

@[simp] theorem writeKeyWord_P (j : Fin 14) (v : Word) : (writeKeyWord j v s).P = s.P := rfl
@[simp] theorem writeKeyWord_S (j : Fin 14) (v : Word) : (writeKeyWord j v s).S = s.S := rfl
@[simp] theorem writeKeyWord_valid (j : Fin 14) (v : Word) : (writeKeyWord j v s).valid = s.valid := rfl
@[simp] theorem writeKeyWord_busy (j : Fin 14) (v : Word) : (writeKeyWord j v s).busy = s.busy := rfl
@[simp] theorem writeKeyWord_err (j : Fin 14) (v : Word) : (writeKeyWord j v s).err = s.err := rfl
@[simp] theorem writeKeyWord_pending (j : Fin 14) (v : Word) : (writeKeyWord j v s).pending = s.pending := rfl
@[simp] theorem writeKeyWord_keylen (j : Fin 14) (v : Word) : (writeKeyWord j v s).keylen = s.keylen := rfl
@[simp] theorem writeKeyWord_dinL (j : Fin 14) (v : Word) : (writeKeyWord j v s).dinL = s.dinL := rfl
@[simp] theorem writeKeyWord_dinR (j : Fin 14) (v : Word) : (writeKeyWord j v s).dinR = s.dinR := rfl
@[simp] theorem writeKeyWord_doutL (j : Fin 14) (v : Word) : (writeKeyWord j v s).doutL = s.doutL := rfl
@[simp] theorem writeKeyWord_doutR (j : Fin 14) (v : Word) : (writeKeyWord j v s).doutR = s.doutR := rfl
@[simp] theorem writeKeyWord_seqPhase (j : Fin 14) (v : Word) : (writeKeyWord j v s).seqPhase = s.seqPhase := rfl
@[simp] theorem writeKeyWord_seqI (j : Fin 14) (v : Word) : (writeKeyWord j v s).seqI = s.seqI := rfl
@[simp] theorem writeKeyWord_seqT (j : Fin 14) (v : Word) : (writeKeyWord j v s).seqT = s.seqT := rfl
@[simp] theorem writeKeyWord_workL (j : Fin 14) (v : Word) : (writeKeyWord j v s).workL = s.workL := rfl
@[simp] theorem writeKeyWord_workR (j : Fin 14) (v : Word) : (writeKeyWord j v s).workR = s.workR := rfl
@[simp] theorem writeKeyWord_draws (j : Fin 14) (v : Word) : (writeKeyWord j v s).draws = s.draws := rfl
@[simp] theorem writeKeyWord_inputs (j : Fin 14) (v : Word) : (writeKeyWord j v s).inputs = s.inputs := rfl
@[simp] theorem writeKeyWord_hostLog (j : Fin 14) (v : Word) : (writeKeyWord j v s).hostLog = s.hostLog := rfl

/-! ### `accept` -/

@[simp] theorem accept_P (p : Pending) : (accept p s).P = s.P := by cases p <;> rfl
@[simp] theorem accept_S (p : Pending) : (accept p s).S = s.S := by cases p <;> rfl
@[simp] theorem accept_valid (p : Pending) : (accept p s).valid = s.valid := by cases p <;> rfl
@[simp] theorem accept_busy (p : Pending) : (accept p s).busy = true := by cases p <;> rfl
@[simp] theorem accept_err (p : Pending) : (accept p s).err = .none := by cases p <;> rfl
@[simp] theorem accept_pending (p : Pending) : (accept p s).pending = p := by cases p <;> rfl
@[simp] theorem accept_key (p : Pending) : (accept p s).key = s.key := by cases p <;> rfl
@[simp] theorem accept_keylen (p : Pending) : (accept p s).keylen = s.keylen := by cases p <;> rfl
@[simp] theorem accept_dinL (p : Pending) : (accept p s).dinL = s.dinL := by cases p <;> rfl
@[simp] theorem accept_dinR (p : Pending) : (accept p s).dinR = s.dinR := by cases p <;> rfl
@[simp] theorem accept_doutL (p : Pending) : (accept p s).doutL = s.doutL := by cases p <;> rfl
@[simp] theorem accept_doutR (p : Pending) : (accept p s).doutR = s.doutR := by cases p <;> rfl
@[simp] theorem accept_draws (p : Pending) : (accept p s).draws = s.draws := by cases p <;> rfl
@[simp] theorem accept_inputs (p : Pending) : (accept p s).inputs = s.inputs := by cases p <;> rfl
@[simp] theorem accept_hostLog (p : Pending) : (accept p s).hostLog = s.hostLog := by cases p <;> rfl
@[simp] theorem accept_kx_seqPhase (n : KeyLength) : (accept (.kx n) s).seqPhase = .kxInit := rfl
@[simp] theorem accept_kx_seqI (n : KeyLength) : (accept (.kx n) s).seqI = 0 := rfl
@[simp] theorem accept_kx_seqT (n : KeyLength) : (accept (.kx n) s).seqT = s.seqT := rfl
@[simp] theorem accept_kx_workL (n : KeyLength) : (accept (.kx n) s).workL = s.workL := rfl
@[simp] theorem accept_kx_workR (n : KeyLength) : (accept (.kx n) s).workR = s.workR := rfl
@[simp] theorem accept_enc_seqPhase : (accept .enc s).seqPhase = .blk := rfl
@[simp] theorem accept_enc_seqI : (accept .enc s).seqI = s.seqI := rfl
@[simp] theorem accept_enc_seqT : (accept .enc s).seqT = 0 := rfl
@[simp] theorem accept_enc_workL : (accept .enc s).workL = s.dinL := rfl
@[simp] theorem accept_enc_workR : (accept .enc s).workR = s.dinR := rfl
@[simp] theorem accept_dec_seqPhase : (accept .dec s).seqPhase = .blk := rfl
@[simp] theorem accept_dec_seqI : (accept .dec s).seqI = s.seqI := rfl
@[simp] theorem accept_dec_seqT : (accept .dec s).seqT = 0 := rfl
@[simp] theorem accept_dec_workL : (accept .dec s).workL = s.dinL := rfl
@[simp] theorem accept_dec_workR : (accept .dec s).workR = s.dinR := rfl

/-! ### Views -/

@[simp] theorem inputBlock_mk : s.inputBlock = ⟨s.dinL, s.dinR⟩ := rfl
@[simp] theorem outputBlock_mk : s.outputBlock = ⟨s.doutL, s.doutR⟩ := rfl
@[simp] theorem workBlock_mk : s.workBlock = ⟨s.workL, s.workR⟩ := rfl
@[simp] theorem tables_mk : s.tables = ⟨s.P, s.S⟩ := rfl

end Sys2Proof.Machine
end

