-- ==== Sys2Proof/Laws/Commands.lean ====
section
/-! SUPPORT. Laws/Commands.lean: what each command can do at the `CMD` write, said once (30_encoding.md R62), and what
`Complete` can do (43_lifecycle_and_host_access.md R107). Later proofs cite these and unfold no meaning. -/

namespace Sys2Proof.Machine

/-! ### The shared operations -/

theorem startTransform_of_valid {s : State} (p : Pending) (h : s.valid = true) : startTransform p s = accept p s := by
  simp [startTransform, h]

theorem startTransform_of_invalid {s : State} (p : Pending) (h : s.valid = false) :
    startTransform p s = raise .noCipher s := by
  simp [startTransform, h]

theorem execKeyexp_of_length {s : State} {n : KeyLength} (h : s.keylen.toNat = n.val) :
    execKeyexp s = .next (startExpansion n s) := by
  simp [execKeyexp, acceptedLength_eq_some.mpr h]

theorem execKeyexp_of_badLength {s : State} (h : s.keylen.toNat < 4 ∨ 56 < s.keylen.toNat) :
    execKeyexp s = .next (raise .invalidLength (destroy s)) := by
  simp [execKeyexp, acceptedLength_eq_none.mpr h]

/-- Every way a command can end at the `CMD` write. -/
inductive CommandEnd (i : Instr) (s : State) : State → Prop where
  /-- a key expansion over `n` bytes is accepted -/
  | expansion (n : KeyLength) (h : i = .keyexp ∧ s.keylen.toNat = n.val ∨ i = .keyexp56 ∧ n = fullLength) :
      CommandEnd i s (startExpansion n s)
  /-- `KEYEXP` is refused -/
  | badLength (hi : i = .keyexp) (h : s.keylen.toNat < 4 ∨ 56 < s.keylen.toNat) :
      CommandEnd i s (raise .invalidLength (destroy s))
  /-- a transform is accepted -/
  | transform (p : Pending) (hp : i = .encrypt ∧ p = .enc ∨ i = .decrypt ∧ p = .dec) (hv : s.valid = true) :
      CommandEnd i s (accept p s)
  /-- a transform is refused -/
  | noCipher (hi : i = .encrypt ∨ i = .decrypt) (hv : s.valid = false) : CommandEnd i s (raise .noCipher s)
  /-- `DROP` -/
  | dropped (hi : i = .drop) : CommandEnd i s (raise .none (clearBlocks (clearKey (destroy s))))

/-- A command always answers a next state, and it is one of these. -/
theorem exec_next (i : Instr) (s : State) : ∃ t, exec i s = .next t ∧ CommandEnd i s t := by
  cases i with
  | keyexp =>
    cases h : acceptedLength s.keylen with
    | some n => exact ⟨_, execKeyexp_of_length (acceptedLength_eq_some.mp h), .expansion n (.inl ⟨rfl, acceptedLength_eq_some.mp h⟩)⟩
    | none => exact ⟨_, execKeyexp_of_badLength (acceptedLength_eq_none.mp h), .badLength rfl (acceptedLength_eq_none.mp h)⟩
  | keyexp56 => exact ⟨_, rfl, .expansion fullLength (.inr ⟨rfl, rfl⟩)⟩
  | encrypt =>
    refine ⟨_, rfl, ?_⟩
    cases h : s.valid with
    | true => rw [startTransform_of_valid _ h]; exact .transform .enc (.inl ⟨rfl, rfl⟩) h
    | false => rw [startTransform_of_invalid _ h]; exact .noCipher (.inl rfl) h
  | decrypt =>
    refine ⟨_, rfl, ?_⟩
    cases h : s.valid with
    | true => rw [startTransform_of_valid _ h]; exact .transform .dec (.inr ⟨rfl, rfl⟩) h
    | false => rw [startTransform_of_invalid _ h]; exact .noCipher (.inr rfl) h
  | drop => exact ⟨_, rfl, .dropped rfl⟩

/-- What a command answers, said once. -/
theorem exec_cases {i : Instr} {s t : State} (h : exec i s = .next t) : CommandEnd i s t := by
  obtain ⟨u, hu, hc⟩ := exec_next i s
  rw [hu] at h
  cases h
  exact hc

/-! ### `Complete` -/

theorem complete_of_idle {s : State} (h : s.busy = false) : complete s = s := by simp [complete, h]

theorem complete_of_busy {s : State} (h : s.busy = true) : complete s = finish (applyPending s) := by
  simp [complete, h]

@[simp] theorem complete_busy (s : State) : (complete s).busy = false := by
  cases h : s.busy <;> simp [complete, h]

@[simp] theorem complete_inputs (s : State) : (complete s).inputs = s.inputs := by
  unfold complete applyPending
  split
  · cases s.pending <;> simp
  · rfl

@[simp] theorem complete_hostLog (s : State) : (complete s).hostLog = s.hostLog := by
  unfold complete applyPending
  split
  · cases s.pending <;> simp
  · rfl

@[simp] theorem complete_err (s : State) : (complete s).err = s.err := by
  unfold complete applyPending
  split
  · cases s.pending <;> simp
  · rfl

theorem applyPending_none {s : State} (h : s.pending = .none) : applyPending s = s := by
  simp only [applyPending, h]

theorem applyPending_kx {s : State} {n : KeyLength} (h : s.pending = .kx n) :
    applyPending s = clearKey (installInstance (expandKey s.key n) s) := by
  simp only [applyPending, h]

theorem applyPending_enc {s : State} (h : s.pending = .enc) :
    applyPending s = deliver (encryptBlock s.P s.S s.inputBlock) s := by
  simp only [applyPending, h]

theorem applyPending_dec {s : State} (h : s.pending = .dec) :
    applyPending s = deliver (decryptBlock s.P s.S s.inputBlock) s := by
  simp only [applyPending, h]

theorem pending_cases (s : State) :
    s.pending = .none ∨ (∃ n, s.pending = .kx n) ∨ s.pending = .enc ∨ s.pending = .dec := by
  cases s.pending <;> simp

/-- `Complete` neither reads nor writes the turns to come. -/
theorem complete_setInputs (us : List Turn) (s : State) : complete (setInputs us s) = setInputs us (complete s) := by
  cases hb : s.busy with
  | false => rw [complete_of_idle hb, complete_of_idle (s := setInputs us s) hb]
  | true =>
    rw [complete_of_busy hb, complete_of_busy (s := setInputs us s) hb]
    obtain hp | ⟨n, hp⟩ | hp | hp := pending_cases s
    · rw [applyPending_none hp, applyPending_none (s := setInputs us s) hp]; rfl
    · rw [applyPending_kx hp, applyPending_kx (s := setInputs us s) hp, setInputs_key]
      generalize expandKey s.key n = c
      rfl
    · rw [applyPending_enc hp, applyPending_enc (s := setInputs us s) hp]; rfl
    · rw [applyPending_dec hp, applyPending_dec (s := setInputs us s) hp]; rfl

/-- `Complete` neither reads nor writes the host's log. -/
theorem complete_setLog (log : List (Nat × Word)) (s : State) : complete (setLog log s) = setLog log (complete s) := by
  cases hb : s.busy with
  | false => rw [complete_of_idle hb, complete_of_idle (s := setLog log s) hb]
  | true =>
    rw [complete_of_busy hb, complete_of_busy (s := setLog log s) hb]
    obtain hp | ⟨n, hp⟩ | hp | hp := pending_cases s
    · rw [applyPending_none hp, applyPending_none (s := setLog log s) hp]; rfl
    · rw [applyPending_kx hp, applyPending_kx (s := setLog log s) hp, setLog_key]
      generalize expandKey s.key n = c
      rfl
    · rw [applyPending_enc hp, applyPending_enc (s := setLog log s) hp]; rfl
    · rw [applyPending_dec hp, applyPending_dec (s := setLog log s) hp]; rfl

end Sys2Proof.Machine
end

