-- ==== Sys2Proof/Laws/Datapath.lean ====
section
/-! SUPPORT. Laws/Datapath.lean: the datapath said once: the block transforms as chains of iterations
(42_block_transform.md R91, R93), the key stream (40_key_expansion.md R70), and that a key expansion sees the key only
through the key stream. -/

namespace Sys2Proof.Machine

/-! ### The block transforms -/

theorem encryptBlock_eq (P : PArray) (S : SBoxes) (b : Block) :
    encryptBlock P S b =
      finalSwap P 16 17 (iteration P S 14 15 (iteration P S 12 13 (iteration P S 10 11 (iteration P S 8 9
        (iteration P S 6 7 (iteration P S 4 5 (iteration P S 2 3 (iteration P S 0 1 b)))))))) := by
  unfold encryptBlock
  rw [show List.finRange 8 = [0, 1, 2, 3, 4, 5, 6, 7] by decide]
  rfl

theorem decryptBlock_eq (P : PArray) (S : SBoxes) (b : Block) :
    decryptBlock P S b =
      finalSwap P 1 0 (iteration P S 3 2 (iteration P S 5 4 (iteration P S 7 6 (iteration P S 9 8
        (iteration P S 11 10 (iteration P S 13 12 (iteration P S 15 14 (iteration P S 17 16 b)))))))) := by
  unfold decryptBlock
  rw [show List.finRange 8 = [0, 1, 2, 3, 4, 5, 6, 7] by decide]
  rfl

/-- Two steps of the 18 are one iteration. -/
theorem feistelStep_pair (P : PArray) (S : SBoxes) (dir : Direction) (b : Block) (t t' : Fin 18) (h : t.val % 2 = 0)
    (h' : t'.val = t.val + 1) (h16 : t'.val < 16) :
    feistelStep P S dir t' (feistelStep P S dir t b) = iteration P S (stepIndex dir t) (stepIndex dir t') b := by
  unfold feistelStep
  rw [if_pos (by omega), if_neg (by omega), if_pos (by omega), if_pos h]
  rfl

/-! ### The key stream -/

/-- One word read at a position gives the cyclic key word there, and the next position. -/
theorem readKeyWord_eq (key : KeyBuffer) (n : KeyLength) (p : Nat) :
    readKeyWord key n (p % n.val) =
      (be32 (keyByte key n p) (keyByte key n (p + 1)) (keyByte key n (p + 2)) (keyByte key n (p + 3)),
        (p + 4) % n.val) := by
  have h4 := n.ge_four
  have next : ∀ q, (if q % n.val + 1 = n.val then 0 else q % n.val + 1) = (q + 1) % n.val := by
    intro q
    have hlt := Nat.mod_lt q (show n.val > 0 by omega)
    rw [← Nat.mod_add_mod q n.val 1]
    split
    · rename_i h; rw [h, Nat.mod_self]
    · rw [Nat.mod_eq_of_lt (show q % n.val + 1 < n.val by omega)]
  unfold readKeyWord
  simp only [show List.range 4 = [0, 1, 2, 3] from rfl, List.foldl_cons, List.foldl_nil, next, keyByte_mod]
  congr 1
  apply BitVec.eq_of_toNat_eq
  simp only [be32, BitVec.toNat_add, BitVec.toNat_shiftLeft, BitVec.toNat_setWidth, Nat.shiftLeft_eq]
  have := (keyByte key n p).isLt
  have := (keyByte key n (p + 1)).isLt
  have := (keyByte key n (p + 2)).isLt
  have := (keyByte key n (p + 3)).isLt
  simp only [BitVec.toNat_ofNat, Nat.add_assoc, Nat.reduceAdd]
  omega

theorem keyWord_congr {key key' : KeyBuffer} {n n' : KeyLength} (h : ∀ k, keyByte key n k = keyByte key' n' k) :
    keyWord key n = keyWord key' n' := by
  funext i
  simp only [keyWord, h]

/-- A key expansion sees the key only through its cyclic byte stream (R71). -/
theorem expandKey_congr {key key' : KeyBuffer} {n n' : KeyLength} (h : ∀ k, keyByte key n k = keyByte key' n' k) :
    expandKey key n = expandKey key' n' := by
  unfold expandKey initialSchedule mixKey
  rw [keyWord_congr h]

end Sys2Proof.Machine
end

