-- ==== Sys2Proof/Laws/Decode.lean ====
section
/-! SUPPORT. Laws/Decode.lean: what the decoder answers, by the value of the word (30_encoding.md R61, R65). -/

namespace Sys2Proof

theorem word_eq_fields (w : Word) : w.toNat = 256 * (fieldZero w).toNat + (fieldOp w).toNat := by
  simp [fieldZero, fieldOp, Nat.shiftRight_eq_div_pow]
  omega

theorem decodeOp_eq (op : Byte) :
    decodeOp op =
      if op.toNat = 1 then some .keyexp
      else if op.toNat = 2 then some .keyexp56
      else if op.toNat = 3 then some .encrypt
      else if op.toNat = 4 then some .decrypt
      else if op.toNat = 5 then some .drop
      else none := by
  simp only [decodeOp, ← BitVec.toNat_inj]
  rfl

/-- The decoder, by the value of the word. -/
theorem decode_eq (w : Word) :
    decode w =
      if w.toNat = 1 then .command .keyexp
      else if w.toNat = 2 then .command .keyexp56
      else if w.toNat = 3 then .command .encrypt
      else if w.toNat = 4 then .command .decrypt
      else if w.toNat = 5 then .command .drop
      else if w.toNat < 256 then .illegal .opUnassigned
      else .illegal .zeroFieldSet := by
  have h := word_eq_fields w
  have hop := (fieldOp w).isLt
  unfold decode
  rw [decodeOp_eq]
  by_cases hz : fieldZero w = 0#24
  · have hz' : (fieldZero w).toNat = 0 := by rw [hz]; rfl
    rw [if_pos hz, show (fieldOp w).toNat = w.toNat by omega]
    simp only [if_pos (show w.toNat < 256 by omega)]
    repeat' split
    all_goals first | rfl | simp_all
  · have hz' : (fieldZero w).toNat ≠ 0 := fun h => hz (BitVec.eq_of_toNat_eq h)
    rw [if_neg hz, if_neg (by omega), if_neg (by omega), if_neg (by omega), if_neg (by omega), if_neg (by omega),
      if_neg (by omega)]

theorem encode_toNat_keyexp : (encode .keyexp).toNat = 1 := rfl
theorem encode_toNat_keyexp56 : (encode .keyexp56).toNat = 2 := rfl
theorem encode_toNat_encrypt : (encode .encrypt).toNat = 3 := rfl
theorem encode_toNat_decrypt : (encode .decrypt).toNat = 4 := rfl
theorem encode_toNat_drop : (encode .drop).toNat = 5 := rfl

/-- A word that decodes to a command has the command's value. -/
theorem toNat_of_decode {w : Word} {i : Instr} (h : decode w = .command i) : w.toNat = (encode i).toNat := by
  rw [decode_eq] at h
  repeat' split at h
  all_goals first | (cases h; simpa using by assumption) | cases h

/-- A word that is illegal is none of 1 to 5. -/
theorem toNat_of_illegal {w : Word} {why : IllegalWord} (h : decode w = .illegal why) : w.toNat < 1 ∨ 5 < w.toNat := by
  rw [decode_eq] at h
  repeat' split at h
  all_goals first | (cases h; done) | (clear h; omega)

end Sys2Proof
end

