-- ==== Sys2Proof/Laws/PerInstr.lean ====
section
/-! SUPPORT. Laws/PerInstr.lean: the family `TableRow`, one lemma per constructor of `Instr`: the command's word is the row
of spec/opcode_table.json (30_encoding.md R61, R69). -/

namespace Sys2Proof.Laws.TableRow

/-- The value spec/opcode_table.json gives the command's row, under the mask of all 32 bits. -/
def tableMatch : Instr → Nat
  | .keyexp => 1
  | .keyexp56 => 2
  | .encrypt => 3
  | .decrypt => 4
  | .drop => 5

/-- The encoded word matches its row, its field `ZERO` is clear, it is well formed, and the decoder reads it back, from
the word and from the table's bits. -/
def Statement (i : Instr) : Prop :=
  (encode i).toNat = tableMatch i ∧ fieldZero (encode i) = 0#24 ∧ (fieldOp (encode i)).toNat = tableMatch i ∧
    commandWordWellFormed (encode i) = true ∧ i.wellFormed = true ∧ decode (encode i) = .command i ∧
    decodeTableWord 32 (tableMatch i) = some i

theorem keyexp : Statement .keyexp := by unfold Statement; decide
theorem keyexp56 : Statement .keyexp56 := by unfold Statement; decide
theorem encrypt : Statement .encrypt := by unfold Statement; decide
theorem decrypt : Statement .decrypt := by unfold Statement; decide
theorem drop : Statement .drop := by unfold Statement; decide

end Sys2Proof.Laws.TableRow
end

