-- ==== Sys2Proof/Laws/Sequencer.lean ====
section
/-! SUPPORT. Laws/Sequencer.lean: the micro-steps by phase (40_key_expansion.md R79, 42_block_transform.md R102), runs of
them, and what one seed write changes. -/

namespace Sys2Proof.Machine

theorem microStep_of_idle {s : State} (h : s.seqPhase = .idle) : microStep s = s := by simp only [microStep, h]
theorem microStep_of_kxInit {s : State} (h : s.seqPhase = .kxInit) : microStep s = microInit s := by
  simp only [microStep, h]
theorem microStep_of_kxXor {s : State} (h : s.seqPhase = .kxXor) : microStep s = microXor s := by
  simp only [microStep, h]
theorem microStep_of_kxGen {s : State} (h : s.seqPhase = .kxGen) : microStep s = microGen s := by
  simp only [microStep, h]
theorem microStep_of_blk {s : State} (h : s.seqPhase = .blk) : microStep s = microBlk s := by simp only [microStep, h]

theorem microSteps_one (s : State) : microSteps 1 s = microStep s := rfl

theorem microSteps_add (a b : Nat) (s : State) : microSteps (a + b) s = microSteps b (microSteps a s) := by
  induction a generalizing s with
  | zero => rw [Nat.zero_add]; rfl
  | succ a ih => rw [Nat.add_right_comm]; exact ih _

/-- A seed write changes one word of `P` at most. -/
theorem readP_writeSeed (i : Fin 1042) (c : CipherState) (j : Fin 18) :
    readP (writeSeed i c).P j = if i.val = j.val then readP pInit j else readP c.P j := by
  unfold writeSeed
  split
  · rename_i h
    rw [readP_writeP]
    by_cases e : i.val = j.val
    · have e' : (⟨i.val, h⟩ : Fin 18) = j := Fin.ext e
      rw [if_pos e, e', if_pos rfl]
    · have e' : (⟨i.val, h⟩ : Fin 18) ≠ j := fun h => e (congrArg Fin.val h)
      rw [if_neg e, if_neg e']
  · rw [if_neg (show i.val ≠ j.val by omega)]

/-- A seed write changes one word of `S` at most. -/
theorem readS_writeSeed (i : Fin 1042) (c : CipherState) (b : Fin 4) (j : Fin 256) :
    readS (writeSeed i c).S b j = if i.val = 18 + 256 * b.val + j.val then readS sInit b j else readS c.S b j := by
  unfold writeSeed
  split
  · rename_i h
    rw [if_neg (show i.val ≠ 18 + 256 * b.val + j.val by omega)]
  · rename_i h
    rw [readS_writeS]
    by_cases e : i.val = 18 + 256 * b.val + j.val
    · have e1 : (⟨(i.val - 18) / 256, by omega⟩ : Fin 4) = b := Fin.ext (by simp only; omega)
      have e2 : (⟨(i.val - 18) % 256, by omega⟩ : Fin 256) = j := Fin.ext (by simp only; omega)
      rw [if_pos e, e1, e2, if_pos ⟨rfl, rfl⟩]
    · rw [if_neg e, if_neg]
      rintro ⟨h1, h2⟩
      have h1 := congrArg Fin.val h1
      have h2 := congrArg Fin.val h2
      simp only at h1 h2
      omega

end Sys2Proof.Machine
end

