-- ==== Sys2Proof/Laws/Turns.lean ====
section
/-! SUPPORT. Laws/Turns.lean: what one turn can do, said once (00_scope.md R13, 43_lifecycle_and_host_access.md R108,
R109), and the equations of the step. -/

namespace Sys2Proof.Machine

/-! ### Host writes -/

/-- Every way a host write can end. -/
inductive WriteEnd (n : Nat) (v : Word) (s : State) : State → Prop where
  /-- discarded while `BUSY = 1` -/
  | discarded (hb : s.busy = true) (hn : n ≤ 31) : WriteEnd n v s s
  /-- a command -/
  | command (hb : s.busy = false) (hn : n = 0) (i : Instr) (hd : decode v = .command i) (t : State)
      (ht : CommandEnd i s t) : WriteEnd n v s t
  /-- an illegal command word -/
  | illegal (hb : s.busy = false) (hn : n = 0) (why : IllegalWord) (hd : decode v = .illegal why) :
      WriteEnd n v s (raise .illegalCommand s)
  /-- `KEYLEN` -/
  | keylen (hb : s.busy = false) (hn : n = 2) : WriteEnd n v s (setKeylen v s)
  /-- `DIN_L` -/
  | dinL (hb : s.busy = false) (hn : n = 4) : WriteEnd n v s (setDinL v s)
  /-- `DIN_R` -/
  | dinR (hb : s.busy = false) (hn : n = 5) : WriteEnd n v s (setDinR v s)
  /-- `KEYWj` -/
  | keyw (hb : s.busy = false) (j : Fin 14) (hn : n = 8 + j.val) : WriteEnd n v s (writeKeyWord j v s)
  /-- a read-only or reserved register -/
  | ignored (hb : s.busy = false) (hn : n = 1 ∨ n = 3 ∨ n = 6 ∨ n = 7 ∨ 22 ≤ n ∧ n ≤ 31) : WriteEnd n v s s

theorem commandWrite_cases {v : Word} {s t : State} (h : commandWrite v s = .next t) :
    (∃ i, decode v = .command i ∧ CommandEnd i s t) ∨
      (∃ why, decode v = .illegal why ∧ t = raise .illegalCommand s) := by
  unfold commandWrite at h
  split at h
  · rename_i i hd
    exact .inl ⟨i, hd, exec_cases h⟩
  · rename_i why hd
    cases h
    exact .inr ⟨why, hd, rfl⟩

theorem hostWrite_cases {n : Nat} {v : Word} {s t : State} (h : hostWrite n v s = .next t) : WriteEnd n v s t := by
  have hn : n ≤ 31 := by
    by_cases hn : 31 < n
    · simp [hostWrite, regOfNumber_eq_none.mpr hn] at h
    · omega
  cases hb : s.busy with
  | true =>
    have : hostWrite n v s = .next s := by
      unfold hostWrite
      cases hr : regOfNumber n with
      | none => have := regOfNumber_eq_none.mp hr; omega
      | some r => simp [hb]
    rw [this] at h
    cases h
    exact .discarded hb hn
  | false =>
    have keyw (j : Fin 14) (hj : n = 8 + j.val) : WriteEnd n v s t := by
      subst hj
      simp only [hostWrite, regOfNumber_keyw, hb, writeReg, Bool.false_eq_true, if_false] at h
      cases h
      exact .keyw hb j rfl
    by_cases h0 : n = 0
    · subst h0
      simp only [hostWrite, regOfNumber_zero, hb, writeReg, Bool.false_eq_true, if_false] at h
      obtain ⟨i, hd, ht⟩ | ⟨why, hd, rfl⟩ := commandWrite_cases h
      · exact .command hb rfl i hd t ht
      · exact .illegal hb rfl why hd
    by_cases h8 : 8 ≤ n ∧ n ≤ 21
    · exact keyw ⟨n - 8, by omega⟩ (by simp; omega)
    have hfin : ∀ m : Fin 32, m.val ≠ 0 → ¬ (8 ≤ m.val ∧ m.val ≤ 21) →
        (m.val = 2 ∧ regOfNumber m.val = some .keylen) ∨ (m.val = 4 ∧ regOfNumber m.val = some .dinL) ∨
        (m.val = 5 ∧ regOfNumber m.val = some .dinR) ∨
        ((m.val = 1 ∨ m.val = 3 ∨ m.val = 6 ∨ m.val = 7 ∨ 22 ≤ m.val ∧ m.val ≤ 31) ∧
          (regOfNumber m.val = some .status ∨ regOfNumber m.val = some .doutL ∨ regOfNumber m.val = some .doutR ∨
            regOfNumber m.val = some .reserved)) := by decide
    obtain ⟨h2, hr⟩ | ⟨h2, hr⟩ | ⟨h2, hr⟩ | ⟨h2, hr⟩ := hfin ⟨n, by omega⟩ h0 h8
    · simp only at h2 hr; simp [hostWrite, hr, hb, writeReg] at h; cases h; exact .keylen hb h2
    · simp only at h2 hr; simp [hostWrite, hr, hb, writeReg] at h; cases h; exact .dinL hb h2
    · simp only at h2 hr; simp [hostWrite, hr, hb, writeReg] at h; cases h; exact .dinR hb h2
    · rcases hr with hr | hr | hr | hr <;> simp only at h2 hr <;> simp [hostWrite, hr, hb, writeReg] at h <;>
        cases h <;> exact .ignored hb h2

/-- A host write at a decoded register always answers a next state. -/
theorem hostWrite_next {n : Nat} (v : Word) (s : State) (hn : n ≤ 31) : ∃ t, hostWrite n v s = .next t := by
  unfold hostWrite
  cases hr : regOfNumber n with
  | none => have := regOfNumber_eq_none.mp hr; omega
  | some r =>
    cases s.busy with
    | true => exact ⟨s, rfl⟩
    | false =>
      cases r <;> simp only [writeReg, Bool.false_eq_true, if_false]
      case cmd =>
        unfold commandWrite
        split
        · obtain ⟨t, ht, -⟩ := exec_next _ s
          exact ⟨t, ht⟩
        · exact ⟨_, rfl⟩
      all_goals exact ⟨_, rfl⟩

/-- A host write while `BUSY = 1` is discarded (R109). -/
theorem hostWrite_of_busy {n : Nat} {v : Word} {s : State} (hn : n ≤ 31) (hb : s.busy = true) :
    hostWrite n v s = .next s := by
  obtain ⟨t, ht⟩ := hostWrite_next v s hn
  cases hostWrite_cases ht <;> simp_all

/-! ### Host reads -/

theorem hostRead_cases {n : Nat} {s t : State} (h : hostRead n s = .next t) :
    n ≤ 31 ∧ ∃ v, t = logRead n v s := by
  unfold hostRead at h
  cases hr : regOfNumber n with
  | none => simp [hr] at h
  | some r =>
    simp only [hr] at h
    cases h
    refine ⟨?_, _, rfl⟩
    by_cases hn : 31 < n
    · rw [regOfNumber_eq_none.mpr hn] at hr
      cases hr
    · omega

theorem hostRead_next {n : Nat} (s : State) (hn : n ≤ 31) : ∃ v, hostRead n s = .next (logRead n v s) := by
  unfold hostRead
  cases hr : regOfNumber n with
  | none => have := regOfNumber_eq_none.mp hr; omega
  | some r => exact ⟨_, rfl⟩

/-! ### One turn -/

/-- Every way a turn can end. -/
inductive TurnEnd (engine : State → State) (s : State) : Turn → State → Prop where
  /-- a host read: only the host's log grows -/
  | read (n : Nat) (hn : n ≤ 31) (v : Word) : TurnEnd engine s (.hostRead n) (logRead n v s)
  /-- a host write -/
  | write (n : Nat) (v : Word) (t : State) (ht : WriteEnd n v s t) : TurnEnd engine s (.hostWrite n v) t
  /-- the engine's step -/
  | engine : TurnEnd engine s .engine (engine s)
  /-- reset -/
  | reset : TurnEnd engine s .reset (resetEngine s)

theorem takeTurn_cases {engine : State → State} {turn : Turn} {s t : State} (h : takeTurn engine turn s = .next t) :
    TurnEnd engine s turn t := by
  cases turn with
  | hostRead n =>
    obtain ⟨hn, v, rfl⟩ := hostRead_cases h
    exact .read n hn v
  | hostWrite n v => exact .write n v t (hostWrite_cases h)
  | partialAccess n => cases h
  | engine => cases h; exact .engine
  | reset => cases h; exact .reset

/-- A turn the engine decodes always answers a next state. -/
theorem takeTurn_next (engine : State → State) {turn : Turn} (s : State) (h : turn.inPort = true) :
    ∃ t, takeTurn engine turn s = .next t := by
  cases turn with
  | hostRead n =>
    obtain ⟨v, hv⟩ := hostRead_next (n := n) s (by simpa [Turn.inPort, registerNumberWellFormed] using h)
    exact ⟨_, hv⟩
  | hostWrite n v => exact hostWrite_next v s (by simpa [Turn.inPort, registerNumberWellFormed] using h)
  | partialAccess n => simp [Turn.inPort] at h
  | engine => exact ⟨_, rfl⟩
  | reset => exact ⟨_, rfl⟩

/-! ### The step -/

theorem step_of_none {s : State} (h : s.inputs = []) : step s = .next (complete s) := by
  simp [step, nextTurn, h]

theorem step_of_cons {s : State} {turn : Turn} {rest : List Turn} (h : s.inputs = turn :: rest) :
    step s = takeTurn complete turn (setInputs rest s) := by
  simp [step, nextTurn, h]

theorem fineStep_of_none {s : State} (h : s.inputs = []) : fineStep s = .next (microStep s) := by
  simp [fineStep, nextTurn, h]

theorem fineStep_of_cons {s : State} {turn : Turn} {rest : List Turn} (h : s.inputs = turn :: rest) :
    fineStep s = takeTurn microStep turn (setInputs rest s) := by
  simp [fineStep, nextTurn, h]

/-- What a step can do, said once, for both machines: the engine moves because no turn is left, or the first turn is
taken. -/
theorem nextTurn_cases {engine : State → State} {s t : State} (h : nextTurn engine s = .next t) :
    (s.inputs = [] ∧ t = engine s) ∨
      ∃ turn rest, s.inputs = turn :: rest ∧ TurnEnd engine (setInputs rest s) turn t := by
  unfold nextTurn at h
  split at h
  · rename_i hi
    cases h
    exact .inl ⟨hi, rfl⟩
  · rename_i turn rest hi
    exact .inr ⟨turn, rest, hi, takeTurn_cases h⟩

/-- A turn does not touch the turns that are left after it. -/
theorem takeTurn_inputs {turn : Turn} {s t : State} (h : takeTurn complete turn s = .next t) : t.inputs = s.inputs := by
  cases takeTurn_cases h with
  | read => rfl
  | write n v t ht =>
    cases ht with
    | command hb hn i hd t ht =>
      cases ht with
      | expansion => simp [startExpansion]
      | _ => simp
    | _ => rfl
  | engine => simp
  | reset => rfl

/-- A host write at an idle engine is the register's own write. -/
theorem step_hostWrite {n : Nat} {r : Reg} {v : Word} {s : State} (hr : regOfNumber n = some r) (hb : s.busy = false)
    (rest : List Turn) : step (setInputs (.hostWrite n v :: rest) s) = writeReg r v (setInputs rest s) := by
  rw [step_of_cons (turn := .hostWrite n v) (rest := rest) rfl]
  show hostWrite n v (setInputs rest s) = _
  simp [hostWrite, hr, hb]

/-- A host read only notes the word. -/
theorem step_hostRead {n : Nat} {r : Reg} (s : State) (hr : regOfNumber n = some r) (rest : List Turn) :
    step (setInputs (.hostRead n :: rest) s) = .next (setInputs rest (logRead n (readReg s r) s)) := by
  rw [step_of_cons (turn := .hostRead n) (rest := rest) rfl]
  show hostRead n (setInputs rest s) = _
  unfold hostRead
  rw [hr]
  cases r <;> rfl

/-- The engine's turn is `Complete`, and the rest of the turns is left. -/
theorem step_engine (rest : List Turn) (s : State) :
    step (setInputs (.engine :: rest) s) = .next (setInputs rest (complete s)) := by
  rw [step_of_cons (turn := .engine) (rest := rest) rfl, ← complete_setInputs]
  rfl

/-! ### Runs -/

theorem runSteps_zero (s : State) : runSteps 0 s = .next s := rfl

theorem runSteps_succ {s t : State} (k : Nat) (h : step s = .next t) : runSteps (k + 1) s = runSteps k t := by
  simp [runSteps, h]

/-- A run of `a + b` steps is a run of `a` steps and then a run of `b` steps. -/
theorem runSteps_add {s t : State} (a b : Nat) (h : runSteps a s = .next t) : runSteps (a + b) s = runSteps b t := by
  induction a generalizing s with
  | zero => cases h; rw [Nat.zero_add]
  | succ a ih =>
    rw [Nat.add_right_comm]
    simp only [runSteps] at h ⊢
    cases hs : step s with
    | next u => simp only [hs] at h ⊢; exact ih h
    | fault r => cases r
    | refused r => simp [hs] at h

theorem coreRun_succ (M : Host.Core) (k : Nat) (s : M.State) :
    M.run (k + 1) s =
      match M.step s with
      | .next t => M.run k t
      | .fault r => .fault r
      | .refused r => .refused r := rfl

/-- The host's interface runs the same steps. -/
theorem coreRun_eq_runSteps (k : Nat) (s : core.State) : core.run k s = runSteps k s := by
  induction k generalizing s with
  | zero => rfl
  | succ k ih =>
    have hs : core.step s = step s := rfl
    rw [coreRun_succ, hs]
    simp only [runSteps]
    cases step s with
    | next t => exact ih t
    | fault r => rfl
    | refused r => rfl

end Sys2Proof.Machine
end

