-- ==== Sys2Proof/Tests/Slice0.lean ====
section
/-! SUPPORT. Tests/Slice0.lean: our own tests. The expected values are the spec's: 10_state.md R42, 30_encoding.md R61 and
R65, 41_round_function.md R89, 95_test_vectors.md section 3, each named at its test. The last part shows, for every
statement with hypotheses, a concrete state and operands that meet them all (`test_witness_…`). -/

namespace Sys2Proof.Machine

-- one proof at a time: many kernel evaluations at once ask for more memory than they use
set_option Elab.async false

/-! ### Small states and what to look at -/

/-- Ready with a zero instance, the block registers and `KEYLEN` set. -/
def testReady : State :=
  { State.reset with
    valid := true, keylen := 4#32, dinL := 0x01234567#32, dinR := 0x89ABCDEF#32, doutL := 6#32, doutR := 7#32 }

/-- Expanding over `n` bytes. -/
def testExpanding (n : KeyLength) : State := startExpansion n testReady

/-- Transforming. -/
def testTransforming (p : Pending) : State := accept p testReady

/-- The state after a step, if there is one, seen through `f`. -/
def afterStep {α : Type} (s : State) (turn : Turn) (f : State → α) : Option α :=
  match step (setInputs [turn] s) with
  | .next t => some (f t)
  | .fault _ => none
  | .refused _ => none

/-- The word a host read of register `n` returns. -/
def readAt (s : State) (n : Nat) : Option Word := (afterStep s (.hostRead n) (fun t => t.hostLog.head?.map (·.2))).join

/-! ### WellFormed: an ill-formed term for each check, refused -/

theorem test_zero_field_set_is_refused :
    zeroFieldClear 0x00000103#32 = false ∧ zeroFieldClear 0x80000001#32 = false ∧
      commandWordWellFormed 0x00000103#32 = false := by decide
theorem test_unassigned_op_is_refused :
    opAssigned 0x00000000#32 = false ∧ opAssigned 0x00000006#32 = false ∧ opAssigned 0x000000FF#32 = false ∧
      commandWordWellFormed 0x00000006#32 = false := by decide
theorem test_register_32_is_refused : registerNumberWellFormed 32 = false ∧ registerNumberWellFormed 31 = true := by
  decide
theorem test_every_command_is_well_formed :
    Instr.all.all (fun i => i.wellFormed && commandWordWellFormed (encode i)) = true := by decide

/-! ### Decoding: the words of R61 bit by bit, illegal words of R65 -/

theorem test_decode_keyexp : decode 0b00000000000000000000000000000001#32 = .command .keyexp := by decide
theorem test_decode_keyexp56 : decode 0b00000000000000000000000000000010#32 = .command .keyexp56 := by decide
theorem test_decode_encrypt : decode 0b00000000000000000000000000000011#32 = .command .encrypt := by decide
theorem test_decode_decrypt : decode 0b00000000000000000000000000000100#32 = .command .decrypt := by decide
theorem test_decode_drop : decode 0b00000000000000000000000000000101#32 = .command .drop := by decide
theorem test_decode_illegal :
    decode 0x00000006#32 = .illegal .opUnassigned ∧ decode 0x01000000#32 = .illegal .zeroFieldSet ∧
      decode 0xFFFFFFFF#32 = .illegal .zeroFieldSet := by decide
theorem test_decodeTableWord :
    decodeTableWord 32 3 = some .encrypt ∧ decodeTableWord 32 0x80000003 = none ∧ decodeTableWord 32 0 = none := by decide

/-- A placed word runs as the next step: `ENCRYPT` after reset is refused with `NoCipher` (V3.40). -/
theorem test_withFetchWord :
    (match step (State.reset.withFetchWord 32 3) with
      | .next t => some t.status
      | .fault _ => none
      | .refused _ => none) = some 0x00000200#32 := by decide +kernel

/-! ### Bytes, the key stream, the seed tables -/

/-- 00_scope.md R9, 20_memory.md R48. -/
theorem test_be32 : be32 0xAA#8 0xBB#8 0xCC#8 0xDD#8 = 0xAABBCCDD#32 ∧ byteOf 0 0xAABBCCDD#32 = 0xAA#8 ∧
    byteOf 3 0xAABBCCDD#32 = 0xDD#8 := by decide

/-- A key buffer that starts with the given bytes. -/
def testKey (bytes : List Byte) : KeyBuffer := Vector.ofFn (fun i : Fin 56 => bytes.getD i.val 0#8)

/-- V3.2: key `AABBCCDDEE`; both forms of R70. -/
theorem test_keyWord_five_bytes :
    (List.range 6).map (keyWord (testKey [0xAA#8, 0xBB#8, 0xCC#8, 0xDD#8, 0xEE#8, 0x11#8]) ⟨5, by decide, by decide⟩) =
      [0xAABBCCDD#32, 0xEEAABBCC#32, 0xDDEEAABB#32, 0xCCDDEEAA#32, 0xBBCCDDEE#32, 0xAABBCCDD#32] := by decide +kernel
/-- V3.3: key `F0E1D2C3B4A596`, the first four words, with the read position. -/
theorem test_keyWordsFrom_seven_bytes :
    keyWordsFrom (testKey [0xF0#8, 0xE1#8, 0xD2#8, 0xC3#8, 0xB4#8, 0xA5#8, 0x96#8]) ⟨7, by decide, by decide⟩ 4 0 =
      [0xF0E1D2C3#32, 0xB4A596F0#32, 0xE1D2C3B4#32, 0xA596F0E1#32] := by decide +kernel
/-- V3.7: `P` after step 2 for the key `AABBCCDDEE`, words 0, 1 and 17. -/
theorem test_mixKey :
    let P := mixKey (testKey [0xAA#8, 0xBB#8, 0xCC#8, 0xDD#8, 0xEE#8]) ⟨5, by decide, by decide⟩ pInit
    readP P 0 = 0x8E84A655#32 ∧ readP P 1 = 0x6B09B31F#32 ∧ readP P 17 = 0x549751A0#32 := by decide +kernel

/-- R42: the first and last words, the xor of each table, the sum of all words. -/
theorem test_seed_tables_first_and_last :
    readP pInit 0 = 0x243F6A88#32 ∧ readP pInit 17 = 0x8979FB1B#32 ∧
      readS sInit 0 0 = 0xD1310BA6#32 ∧ readS sInit 0 255 = 0x6E85076A#32 ∧
      readS sInit 1 0 = 0x4B7A70E9#32 ∧ readS sInit 1 255 = 0xDB83ADF7#32 ∧
      readS sInit 2 0 = 0xE93D5A68#32 ∧ readS sInit 2 255 = 0x406000E0#32 ∧
      readS sInit 3 0 = 0x3A39CE37#32 ∧ readS sInit 3 255 = 0x3AC372E6#32 := by decide +kernel
theorem test_seed_tables_xor :
    pInit.toList.foldl (· ^^^ ·) 0#32 = 0xB73AD7EA#32 ∧
      sInit.toList.map (fun box => box.toList.foldl (· ^^^ ·) 0#32) =
        [0x4EB4DB7F#32, 0xC727E122#32, 0x462A5D01#32, 0x1779E2BC#32] := by decide +kernel
theorem test_seed_tables_sum :
    sInit.toList.foldl (fun sum box => box.toList.foldl (· + ·) sum) (pInit.toList.foldl (· + ·) 0#32) =
      0x6BBF03AC#32 := by decide +kernel

/-! ### The datapath on the seed tables -/

/-- R89. -/
theorem test_roundFunction :
    F sInit 0x00000000#32 = 0x2FCFF51E#32 ∧ F sInit 0x12345678#32 = 0x3C6FDDD4#32 ∧
      F sInit 0xFFFFFFFF#32 = 0x452C2867#32 := by decide +kernel
/-- V3.24. -/
theorem test_encryptBlock : encryptBlock pInit sInit ⟨0x01234567#32, 0x89ABCDEF#32⟩ = ⟨0x738E078D#32, 0x4C8703A6#32⟩ := by
  decide +kernel
/-- V3.25. -/
theorem test_decryptBlock : decryptBlock pInit sInit ⟨0x01234567#32, 0x89ABCDEF#32⟩ = ⟨0xC5D85F4B#32, 0xA35395DC#32⟩ := by
  decide +kernel
/-- V3.11, encryption 0: the first generating encryption of the all-zero key writes `P[0]`, `P[1]`. -/
theorem test_generate :
    let x := generate (writeBackP 0) ⟨⟨pInit, sInit⟩, ⟨0#32, 0#32⟩⟩
    readP x.tables.P 0 = 0x706D9FCC#32 ∧ readP x.tables.P 1 = 0x1792D23A#32 ∧ x.run = ⟨0x706D9FCC#32, 0x1792D23A#32⟩ := by
  decide +kernel

/-! ### Commands and refusals: rows of 95_test_vectors.md, section 3.5 -/

/-- V3.40 and V3.41. -/
theorem test_transforms_without_cipher :
    afterStep .reset (commandTurn .encrypt) (fun t => (t.status, t.doutL, t.busy)) = some (0x00000200#32, 0#32, false) ∧
      afterStep .reset (commandTurn .decrypt) State.status = some 0x00000200#32 := by decide +kernel
/-- V3.42 to V3.45. -/
theorem test_illegal_commands :
    afterStep .reset (.hostWrite 0 0x00000000#32) State.status = some 0x00000300#32 ∧
      afterStep testReady (.hostWrite 0 0x00000006#32) State.status = some 0x00000302#32 ∧
      afterStep testReady (.hostWrite 0 0x00000103#32) State.status = some 0x00000302#32 ∧
      afterStep testReady (.hostWrite 0 0x80000001#32) State.status = some 0x00000302#32 := by decide +kernel
/-- V3.13: lengths 0, 3, 4, 56, 57 and 0x80000000. -/
theorem test_keyexp_length_check :
    [0#32, 3#32, 4#32, 56#32, 57#32, 0x80000000#32].map
        (fun n => afterStep (setKeylen n testReady) (commandTurn .keyexp) State.status) =
      [some 0x00000100#32, some 0x00000100#32, some 0x00000001#32, some 0x00000001#32, some 0x00000100#32,
        some 0x00000100#32] := by decide +kernel
/-- V3.46. -/
theorem test_keyexp_refused_keeps_the_operands :
    afterStep (setKeylen 0#32 testReady) (commandTurn .keyexp) (fun t => (t.dinL, t.doutR, t.keylen)) =
      some (0x01234567#32, 7#32, 0#32) := by decide +kernel
/-- V3.47, first half. -/
theorem test_keyexp56_ignores_keylen :
    afterStep (setKeylen 0#32 testReady) (commandTurn .keyexp56) State.status = some 0x00000001#32 := by decide +kernel
/-- V3.48. -/
theorem test_drop_clears :
    afterStep testReady (commandTurn .drop) (fun t => (t.status, t.doutL, t.dinL, t.keylen)) =
      some (0#32, 0#32, 0#32, 0#32) := by decide +kernel
/-- V3.49. -/
theorem test_drop_clears_err :
    afterStep (raise .noCipher .reset) (commandTurn .drop) State.status = some 0#32 := by decide +kernel
/-- V3.50 and V3.51: writes while `BUSY = 1` are discarded. -/
theorem test_busy_discards_writes :
    afterStep (testTransforming .enc) (.hostWrite 4 0x12345678#32) (fun t => (t.status, t.dinL)) =
        some (0x00000003#32, 0x01234567#32) ∧
      afterStep (testExpanding fullLength) (commandTurn .drop) State.status = some 0x00000001#32 := by decide +kernel
/-- V3.52: reads of the write-only and reserved registers. -/
theorem test_write_only_registers_read_zero :
    [8, 0, 3, 31].map (readAt (testExpanding fullLength)) = [some 0#32, some 0#32, some 0#32, some 0#32] := by
  decide +kernel
/-- V3.53: writes to read-only and reserved registers. -/
theorem test_read_only_registers_ignore_writes :
    [1, 6, 3].map (fun n => afterStep testReady (.hostWrite n 1#32) (fun t => (t.status, t.doutL))) =
      [some (2#32, 6#32), some (2#32, 6#32), some (2#32, 6#32)] := by decide +kernel
/-- V3.55. -/
theorem test_key_window :
    afterStep testReady (.hostWrite 8 0xAABBCCDD#32) (fun t => (t.key[0], t.key[1], t.key[2], t.key[3], t.valid)) =
      some (0xAA#8, 0xBB#8, 0xCC#8, 0xDD#8, true) := by decide +kernel
/-- U7 and U8: what the engine does not decode. -/
theorem test_undecoded_accesses_stop :
    afterStep testReady (.hostRead 32) State.status = none ∧
      afterStep testReady (.partialAccess 4) State.status = none := by decide +kernel

/-! ### Witnesses: states and operands that meet the hypotheses of the statements -/

theorem coherent_testReady : Coherent testReady := by
  constructor <;> simp [testReady, State.reset, Pending.phases]

theorem coherent_testExpanding (n : KeyLength) : Coherent (testExpanding n) := by
  constructor <;> simp [testExpanding, startExpansion, Pending.phases]

theorem coherent_testTransforming : Coherent (testTransforming .enc) := by
  constructor <;> simp [testTransforming, testReady, Pending.phases]

theorem coherent_empty : Coherent State.reset := by
  constructor <;> simp [State.reset, Pending.phases]

/-- `HostReadReturnsTheRegister`: every boundary number is decoded, and each answers its own word. -/
theorem test_witness_HostReadReturnsTheRegister :
    [0, 1, 2, 3, 4, 5, 6, 7, 8, 21, 22, 31].map (readAt testReady) =
      [some 0#32, some 2#32, some 4#32, some 0#32, some 0x01234567#32, some 0x89ABCDEF#32, some 6#32, some 7#32,
        some 0#32, some 0#32, some 0#32, some 0#32] := by decide +kernel

/-- `HostWriteEffect`: a busy and an idle state; the command, the illegal, the storing and the ignored numbers. -/
theorem test_witness_HostWriteEffect :
    (testTransforming .enc).busy = true ∧ testReady.busy = false ∧ decode 5#32 = .command .drop ∧
      decode 6#32 = .illegal .opUnassigned ∧
      [2, 4, 5].map (fun n => afterStep testReady (.hostWrite n 9#32) (fun t => (t.keylen, t.dinL, t.dinR))) =
        [some (9#32, 0x01234567#32, 0x89ABCDEF#32), some (4#32, 9#32, 0x89ABCDEF#32),
          some (4#32, 0x01234567#32, 9#32)] ∧
      [8, 21].map (fun n => afterStep testReady (.hostWrite n 9#32) (fun t => (t.key[3], t.key[55]))) =
        [some (9#8, 0#8), some (0#8, 9#8)] ∧
      [1, 3, 6, 7, 22, 31].all (fun n => afterStep testReady (.hostWrite n 9#32)
        (fun t => (t.keylen, t.dinL, t.doutL, t.key[3])) == some (4#32, 0x01234567#32, 6#32, 0#8)) = true := by
  decide +kernel

/-- `UndecodedAccessIsRefused`: 32 is the first number above 31, and 31 is no such number. -/
theorem test_witness_UndecodedAccessIsRefused : 31 < 32 ∧ ¬ 31 < 31 ∧ regOfNumber 32 = none ∧
    regOfNumber 31 = some .reserved := by decide

/-- `DecodeInvertsEncode`, `StepRunsTheDecodedCommand`: a word that decodes, an idle state. -/
theorem test_witness_StepRunsTheDecodedCommand :
    testReady.busy = false ∧ decode 3#32 = .command .encrypt ∧ decodeTableWord 32 3 = some .encrypt := by decide

/-- `IllegalCommandSetsErrOnly`: 0 and 6 on both sides of the commands. -/
theorem test_witness_IllegalCommandSetsErrOnly :
    testReady.busy = false ∧ (0#32).toNat < 1 ∧ 5 < (6#32).toNat ∧
      afterStep testReady (.hostWrite 0 6#32) (fun t => t.err) = some .illegalCommand := by decide +kernel

/-- `CommandWriteIsExaminedInOrder`: a state for every clause, the words at their boundaries. -/
theorem test_witness_CommandWriteIsExaminedInOrder :
    (testTransforming .enc).busy = true ∧ testReady.busy = false ∧
      [0, 6].map (fun w => afterStep testReady (.hostWrite 0 (BitVec.ofNat 32 w)) (fun t => t.err)) =
        [some .illegalCommand, some .illegalCommand] ∧
      [3, 4, 56, 57].map (fun n => afterStep (setKeylen (BitVec.ofNat 32 n) testReady) (.hostWrite 0 1#32)
          (fun t => t.err)) =
        [some .invalidLength, some .none, some .none, some .invalidLength] ∧
      [3, 4].map (fun w => afterStep .reset (.hostWrite 0 (BitVec.ofNat 32 w)) (fun t => t.err)) =
        [some .noCipher, some .noCipher] ∧
      [2, 3, 4, 5].map (fun w => afterStep testReady (.hostWrite 0 (BitVec.ofNat 32 w)) (fun t => t.err)) =
        [some .none, some .none, some .none, some .none] := by decide +kernel

/-- `KeyexpEffect`, `Keyexp56Effect`, `InvalidLengthRefusal`, `CommandFrame`, `AcceptanceStartsTheSequencer`: idle states
with lengths 3, 57 (refused), 4 and 56 (accepted). -/
theorem test_witness_KeyexpEffect :
    testReady.busy = false ∧ (setKeylen 3#32 testReady).busy = false ∧ (setKeylen 57#32 testReady).busy = false ∧
      (setKeylen 56#32 testReady).busy = false ∧
      (setKeylen 3#32 testReady).keylen.toNat < 4 ∧ 56 < (setKeylen 57#32 testReady).keylen.toNat ∧
      testReady.keylen.toNat = (⟨4, by decide, by decide⟩ : KeyLength).val ∧
      (setKeylen 56#32 testReady).keylen.toNat = fullLength.val := by decide

theorem test_witness_CommandFrame :
    ∃ t, exec .keyexp testReady = .next t ∧ testReady.busy = false ∧ 4 ≤ testReady.keylen.toNat ∧
      testReady.keylen.toNat ≤ 56 ∧ ∃ u, exec .drop testReady = .next u ∧ u.busy = false :=
  ⟨startExpansion ⟨4, by decide, by decide⟩ testReady, execKeyexp_of_length (s := testReady) rfl, rfl, by decide, by decide,
    _, rfl, rfl⟩

/-- `EncryptEffect`, `DecryptEffect`, `DropEffect`, `NoCipherRefusal`, `AcceptanceStartsTheSequencer`: idle states without
and with an instance. -/
theorem test_witness_EncryptEffect :
    State.reset.busy = false ∧ State.reset.valid = false ∧ testReady.busy = false ∧ testReady.valid = true := by decide

/-- `KeyBufferIsConsumed`, `MicroStepsRefineKeyExpansion`, `CompletionTimeDoesNotMatter`: a pending key expansion, its
sequencer at the start. -/
theorem test_witness_KeyBufferIsConsumed (n : KeyLength) :
    (testExpanding n).busy = true ∧ (testExpanding n).pending = .kx n ∧ AtStart (testExpanding n) :=
  ⟨rfl, rfl, fun _ => rfl⟩

theorem test_witness_MicroStepsRefineTheTransform :
    (testTransforming .dec).busy = true ∧ (testTransforming .dec).pending = .dec ∧ AtStart (testTransforming .dec) :=
  ⟨rfl, rfl, fun _ => rfl⟩

/-- `RoundFunctionIsTheFormula`: the word `0x01FF00FE` and its four bytes. -/
theorem test_witness_RoundFunctionIsTheFormula :
    (0x01FF00FE#32).toNat = 0x1000000 * (1 : Fin 256).val + 0x10000 * (255 : Fin 256).val + 0x100 * (0 : Fin 256).val +
      (254 : Fin 256).val := by decide

/-- `KeyWordFormsAgree`: word 1 of a key of five bytes wraps after its first byte (R70's example). -/
theorem test_witness_KeyWordFormsAgree :
    (4 : Fin 56).val = 4 * 1 % 5 ∧ (0 : Fin 56).val = (4 * 1 + 1) % 5 ∧ (1 : Fin 56).val = (4 * 1 + 2) % 5 ∧
      (2 : Fin 56).val = (4 * 1 + 3) % 5 := by decide

/-- `WrittenKeyWordIsReadBack`: the shortest and the longest key, the last words of each, and another word. -/
theorem test_witness_WrittenKeyWordIsReadBack :
    (4 % 4 = 0 ∧ (0 : Fin 14).val < 4 / 4) ∧ fullLength.val % 4 = 0 ∧ (13 : Fin 14).val < fullLength.val / 4 ∧
      (0 : Fin 14).val < fullLength.val / 4 ∧ (0 : Fin 14) ≠ 13 := by decide

/-- `RepeatedKeyGivesTheSameTables`: four bytes and the 14 times repeated key of V3.12. -/
theorem test_witness_RepeatedKeyGivesTheSameTables :
    fullLength.val = 14 * 4 ∧
      (List.finRange 56).all (fun k => (Vector.ofFn (fun i : Fin 56 => BitVec.ofNat 8 (1 + i.val % 4)) : KeyBuffer)[k] ==
        (testKey [1#8, 2#8, 3#8, 4#8])[k.val % 4]) = true := by decide +kernel

/-- `AllZeroKeysGiveTheSameTables`, `UnusedKeyBytesAreIgnored`: buffers that agree below the length and differ above. -/
theorem test_witness_UnusedKeyBytesAreIgnored :
    testReady.busy = false ∧ 4 ≤ testReady.keylen.toNat ∧ testReady.keylen.toNat ≤ 56 ∧
      (List.finRange 56).all (fun k => decide (4 ≤ k.val) || (testKey [0#8, 0#8, 0#8, 0#8, 1#8])[k] == testReady.key[k]) =
        true ∧ (testKey [0#8, 0#8, 0#8, 0#8, 1#8])[4] ≠ testReady.key[4] := by decide +kernel

/-- `DecryptionIsEncryptionReversed`: the seed array and its reverse. -/
theorem test_witness_DecryptionIsEncryptionReversed :
    ∀ k : Fin 18, readP pInit.reverse k = readP pInit k.rev := by decide +kernel

/-- `StepKeepsCoherent`, `FineStepKeepsCoherent`, `StatusReadsOneOfEightValues`, `MicroStepsAreInvisible`,
`LifecycleTransitions`: coherent states of all four lifecycle states, and steps from them. -/
theorem test_witness_StepKeepsCoherent :
    (Coherent State.reset ∧ ∃ t, step State.reset = .next t) ∧
      (Coherent (testExpanding fullLength) ∧ ∃ t, fineStep (testExpanding fullLength) = .next t) ∧
      Coherent testReady ∧ Coherent (testTransforming .enc) :=
  ⟨⟨coherent_empty, _, rfl⟩, ⟨coherent_testExpanding _, _, fineStep_of_none rfl⟩, coherent_testReady,
    coherent_testTransforming⟩

theorem test_witness_StepKeepsAtStart : AtStart (testTransforming .dec) ∧ ∃ t, step (testTransforming .dec) = .next t :=
  ⟨fun _ => rfl, complete (testTransforming .dec), step_of_none (s := testTransforming .dec) rfl⟩

theorem test_witness_MicroStepsAreInvisible :
    Coherent (testTransforming .enc) ∧ (testTransforming .enc).busy = true ∧
      (microStep (testTransforming .enc)).busy = true :=
  ⟨coherent_testTransforming, rfl, rfl⟩

/-- `LifecycleTransitions`: a state and a turn for each clause; the words and lengths at their boundaries. -/
theorem test_witness_LifecycleTransitions :
    State.reset.lifecycle = .empty ∧ (testExpanding fullLength).lifecycle = .expanding ∧
      testReady.lifecycle = .ready ∧ (testTransforming .enc).lifecycle = .transforming ∧
      [3, 4, 56, 57].map (fun n => afterStep (setKeylen (BitVec.ofNat 32 n) testReady) (.hostWrite 0 1#32)
          State.lifecycle) =
        [some .empty, some .expanding, some .expanding, some .empty] ∧
      [0, 2, 3, 4, 5, 6].map (fun w => afterStep testReady (.hostWrite 0 (BitVec.ofNat 32 w)) State.lifecycle) =
        [some .ready, some .expanding, some .transforming, some .transforming, some .empty, some .ready] ∧
      [0, 2, 3, 4, 5, 6].map (fun w => afterStep .reset (.hostWrite 0 (BitVec.ofNat 32 w)) State.lifecycle) =
        [some .empty, some .expanding, some .empty, some .empty, some .empty, some .empty] ∧
      afterStep (testExpanding fullLength) .reset State.lifecycle = some .empty ∧
      afterStep (testTransforming .enc) .engine State.lifecycle = some .ready := by decide +kernel

/-- `CipherStateIsImmutable`: a coherent state with an instance, its next turn an `ENCRYPT`. -/
theorem test_witness_CipherStateIsImmutable :
    Coherent (setInputs [commandTurn .encrypt] testReady) ∧ testReady.valid = true ∧ (encode .encrypt).toNat = 3 ∧
      ∃ t, step (setInputs [commandTurn .encrypt] testReady) = .next t := by
  refine ⟨?_, rfl, rfl, takeTurn_next complete (turn := commandTurn .encrypt) (setInputs [] testReady) rfl⟩
  constructor <;> simp [testReady, State.reset, Pending.phases]

/-- `TablesChangeOnlyBy`, `ErrChangesOnlyBy`, `OutputChangesOnlyBy`, `OperandsChangeOnlyBy`: a `DROP` that changes all of
these. -/
theorem test_witness_TablesChangeOnlyBy :
    afterStep (raise .illegalCommand { testReady with P := pInit }) (commandTurn .drop)
        (fun t => (readP t.P 0, t.err, t.doutL, t.keylen, t.dinL)) = some (0#32, .none, 0#32, 0#32, 0#32) ∧
      readP pInit 0 ≠ 0#32 ∧ testReady.doutL ≠ 0#32 ∧ testReady.keylen ≠ 0#32 ∧ testReady.dinL ≠ 0#32 := by
  decide +kernel

/-- `EveryDecodedTurnHasANextState`, `PendingCommandCompletes`, `CompletionTimeDoesNotMatter`, `HostReadsRevealNoSecret`:
turns the engine decodes at the boundary numbers, and two states that differ in the tables only. -/
theorem test_witness_PendingCommandCompletes :
    [Turn.hostRead 0, .hostRead 31, .hostWrite 0 3#32, .hostWrite 31 0#32].all (fun turn => turn.inPort && turn.isHost) =
        true ∧ (Turn.engine.inPort && Turn.reset.inPort) = true ∧
      (Turn.hostRead 32).inPort = false ∧ (Turn.hostWrite 32 0#32).inPort = false ∧
      (Turn.partialAccess 0).inPort = false := by decide

theorem test_witness_HostReadsRevealNoSecret :
    (∃ P S key, ({ testReady with P := pInit } : State) = { testReady with P := P, S := S, key := key }) ∧
      (∃ t, runSteps 1 (setInputs [.hostRead 1] testReady) = .next t) ∧
      ∃ t, runSteps 1 (setInputs [.hostRead 1] { testReady with P := pInit }) = .next t :=
  ⟨⟨pInit, testReady.S, testReady.key, rfl⟩, ⟨_, rfl⟩, _, rfl⟩

/-- `RoundTripAtTheRegisters`, `TransformSequenceReturnsTheBlock`: `testReady` is idle and has an instance.
`ConstructBuildsTheKeysInstance`: keys of 3, 4, 56 and 57 bytes, and a buffer that holds the key. -/
theorem test_witness_ConstructBuildsTheKeysInstance :
    (testReady.busy = false ∧ testReady.valid = true) ∧
      [3, 4, 56, 57].all (fun n => decide ((List.replicate n (7#8 : Byte)).length < 2 ^ 32)) = true ∧
      (List.finRange 56).all (fun k => some ((Vector.replicate 56 7#8 : KeyBuffer)[k]) ==
        (List.replicate 56 (7#8 : Byte))[k.val]?) = true := by decide +kernel

end Sys2Proof.Machine
end

section
/-! The run of the listed turns (00_scope.md R13): a decoded turn is always taken, so a run of as many steps as turns are
listed uses them up; the step after it is the engine's (log entry 8). -/

namespace Sys2Proof.Machine

/-- A step takes a decoded first turn and leaves the rest of the turns. -/
theorem step_takes_turn {s : State} {turn : Turn} {rest : List Turn} (hs : s.inputs = turn :: rest)
    (hturn : turn.inPort = true) : ∃ t, step s = .next t ∧ t.inputs = rest := by
  obtain ⟨t, ht⟩ := takeTurn_next complete (setInputs rest s) hturn
  exact ⟨t, (step_of_cons hs).trans ht, takeTurn_inputs ht⟩

/-- As many steps as there are listed turns, all decoded, leave no turn. -/
theorem runSteps_takes_all_turns {us : List Turn} (hus : ∀ turn ∈ us, turn.inPort = true) {s : State}
    (hs : s.inputs = us) : ∃ t, runSteps us.length s = .next t ∧ t.inputs = [] := by
  induction us generalizing s with
  | nil => exact ⟨s, runSteps_zero s, hs⟩
  | cons turn rest ih =>
    obtain ⟨hturn, hrest⟩ := List.forall_mem_cons.mp hus
    obtain ⟨u, hu, hui⟩ := step_takes_turn hs hturn
    obtain ⟨t, ht, hti⟩ := ih hrest hui
    exact ⟨t, (runSteps_succ rest.length hu).trans ht, hti⟩

/-- Settles O48: the listed turns are used up one per step, and the step after them is `Complete`, which ends with
`BUSY = 0`. -/
theorem pendingCommandCompletes : Obligations.PendingCommandCompletes := by
  intro s hturns
  obtain ⟨u, hu, hui⟩ := runSteps_takes_all_turns hturns rfl
  have hlast : runSteps 1 u = .next (complete u) := runSteps_succ 0 (step_of_none hui)
  exact ⟨complete u, (runSteps_add _ 1 hu).trans hlast, complete_busy u, (complete_inputs u).trans hui⟩

end Sys2Proof.Machine
end

section
/-! What every turn keeps, from the rules of Laws/Turns.lean: an invariant of either machine follows from the kinds of
act (host read, host write, the engine's step, reset). First the invariant `Coherent` (10_state.md R28, R30, R31, R36). -/

namespace Sys2Proof.Machine

/-! ### A property that every turn keeps -/

/-- A property that the model's bookkeeping, a host write, the engine's own step and reset keep is kept by every step of
the machine with that engine. -/
theorem nextTurn_keeps {engine : State → State} {Inv : State → Prop}
    (hinputs : ∀ {s} us, Inv s → Inv (setInputs us s)) (hlog : ∀ {s} n v, Inv s → Inv (logRead n v s))
    (hwrite : ∀ {n v s t}, WriteEnd n v s t → Inv s → Inv t) (hengine : ∀ {s}, Inv s → Inv (engine s))
    (hreset : ∀ s, Inv (resetEngine s)) {s t : State} (h : nextTurn engine s = .next t) (hs : Inv s) : Inv t := by
  obtain ⟨-, rfl⟩ | ⟨turn, rest, -, hturn⟩ := nextTurn_cases h
  · exact hengine hs
  · have hs' : Inv (setInputs rest s) := hinputs rest hs
    cases hturn with
    | read n hn v => exact hlog n v hs'
    | write n v t ht => exact hwrite ht hs'
    | engine => exact hengine hs'
    | reset => exact hreset _

/-! ### The invariant `Coherent` -/

/-- An idle engine is coherent when `ERR` agrees with `VALID`. -/
theorem coherent_of_idle {s : State} (hbusy : s.busy = false) (hpending : s.pending = .none)
    (hphase : s.seqPhase = .idle) (herr : s.valid = true → s.err = .none ∨ s.err = .illegalCommand) : Coherent s := by
  constructor <;> simp_all [Pending.phases]

/-- While the flags, `PENDING` and `ERR` stay, only the sequencer's place is to be checked. -/
theorem Coherent.of_same_flags {s t : State} (h : Coherent s) (hbusy : t.busy = s.busy)
    (hpending : t.pending = s.pending) (hvalid : t.valid = s.valid) (herr : t.err = s.err)
    (hphase : t.seqPhase ∈ s.pending.phases) (hxor : t.seqPhase = .kxXor → t.seqI.val ≤ 17)
    (hgen : t.seqPhase = .kxGen → t.seqI.val ≤ 520) : Coherent t where
  busy_iff := by rw [hbusy, hpending]; exact h.busy_iff
  expanding := by rw [hpending, hvalid]; exact h.expanding
  transforming := by rw [hpending, hvalid]; exact h.transforming
  phase := by rw [hpending]; exact hphase
  xor_index := hxor
  gen_index := hgen
  busy_err := by rw [hbusy, herr]; exact h.busy_err
  valid_err := by rw [hvalid, herr]; exact h.valid_err

/-- `Coherent` speaks of six pieces of state only. -/
theorem Coherent.of_same_control {s t : State} (h : Coherent s) (hbusy : t.busy = s.busy)
    (hpending : t.pending = s.pending) (hvalid : t.valid = s.valid) (herr : t.err = s.err)
    (hphase : t.seqPhase = s.seqPhase) (hindex : t.seqI = s.seqI) : Coherent t :=
  h.of_same_flags hbusy hpending hvalid herr (hphase ▸ h.phase) (by rw [hphase, hindex]; exact h.xor_index)
    (by rw [hphase, hindex]; exact h.gen_index)

theorem Coherent.pending_of_idle {s : State} (h : Coherent s) (hb : s.busy = false) : s.pending = .none := by
  refine Classical.byContradiction fun hp => ?_
  have hbusy := h.busy_iff.mpr hp
  simp [hb] at hbusy

theorem Coherent.phase_of_idle {s : State} (h : Coherent s) (hb : s.busy = false) : s.seqPhase = .idle := by
  simpa [h.pending_of_idle hb, Pending.phases] using h.phase

/-- A command at an idle engine keeps `Coherent`. -/
theorem CommandEnd.keeps_coherent {i : Instr} {s t : State} (ht : CommandEnd i s t) (hb : s.busy = false)
    (h : Coherent s) : Coherent t := by
  have hp := h.pending_of_idle hb
  have hphase := h.phase_of_idle hb
  cases ht with
  | expansion n _ => constructor <;> simp [startExpansion, accept, startSequencer, Pending.phases]
  | badLength _ _ => exact coherent_of_idle hb hp hphase (by simp)
  | transform p hi hv =>
    obtain ⟨-, rfl⟩ | ⟨-, rfl⟩ := hi <;> constructor <;> simp [hv, accept, startSequencer, Pending.phases]
  | noCipher _ hv => exact coherent_of_idle hb hp hphase (by simp [hv])
  | dropped _ => exact coherent_of_idle hb hp hphase (by simp)

theorem WriteEnd.keeps_coherent {n : Nat} {v : Word} {s t : State} (ht : WriteEnd n v s t) (h : Coherent s) :
    Coherent t := by
  cases ht with
  | discarded => exact h
  | ignored => exact h
  | command hb _ i _ t ht => exact ht.keeps_coherent hb h
  | illegal hb _ _ _ => exact coherent_of_idle hb (h.pending_of_idle hb) (h.phase_of_idle hb) (fun _ => .inr rfl)
  | keylen => exact h.of_same_control rfl rfl rfl rfl rfl rfl
  | dinL => exact h.of_same_control rfl rfl rfl rfl rfl rfl
  | dinR => exact h.of_same_control rfl rfl rfl rfl rfl rfl
  | keyw => exact h.of_same_control rfl rfl rfl rfl rfl rfl

theorem complete_keeps_coherent {s : State} (h : Coherent s) : Coherent (complete s) := by
  cases hb : s.busy with
  | false => rwa [complete_of_idle hb]
  | true =>
    have herr : (complete s).err = .none := (complete_err s).trans (h.busy_err hb)
    rw [complete_of_busy hb] at herr ⊢
    exact coherent_of_idle rfl rfl rfl (fun _ => .inl herr)

/-- Either machine keeps `Coherent` when its engine does. -/
theorem nextTurn_keeps_coherent {engine : State → State} (hengine : ∀ {s}, Coherent s → Coherent (engine s))
    {s t : State} (h : nextTurn engine s = .next t) (hs : Coherent s) : Coherent t :=
  nextTurn_keeps (fun _ h => h.of_same_control rfl rfl rfl rfl rfl rfl)
    (fun _ _ h => h.of_same_control rfl rfl rfl rfl rfl rfl) WriteEnd.keeps_coherent hengine
    (fun _ => coherent_of_idle rfl rfl rfl (fun h => nomatch h)) h hs

/-- Settles O37: `Complete`, like every other act, keeps `Coherent`. -/
theorem stepKeepsCoherent : Obligations.StepKeepsCoherent :=
  fun _ _ hs h => nextTurn_keeps_coherent complete_keeps_coherent h hs

/-- Settles O36: the reset state is idle with `VALID = 0`. -/
theorem coherentAtReset : Obligations.CoherentAtReset :=
  coherent_of_idle rfl rfl rfl (fun h => nomatch h)

end Sys2Proof.Machine
end

section
/-! The micro-steps keep `Coherent` (40_key_expansion.md R79, 42_block_transform.md R102): one lemma per phase. -/

namespace Sys2Proof.Machine

theorem val_nextI {i : Fin 1042} (h : i.val < 1041) : (nextI i).val = i.val + 1 :=
  Nat.mod_eq_of_lt (show i.val + 1 < 1042 by omega)

/-- A sequencer in one of the three phases of a key expansion has one to work at. -/
theorem Coherent.pending_kx {s : State} (h : Coherent s)
    (hphase : s.seqPhase = .kxInit ∨ s.seqPhase = .kxXor ∨ s.seqPhase = .kxGen) : ∃ n, s.pending = .kx n := by
  have hmem := h.phase
  obtain hp | ⟨n, hp⟩ | hp | hp := pending_cases s
  · simp_all [Pending.phases]
  · exact ⟨n, hp⟩
  · simp_all [Pending.phases]
  · simp_all [Pending.phases]

theorem microInit_keeps_coherent {s : State} (h : Coherent s) (hphase : s.seqPhase = .kxInit) :
    Coherent (microInit s) := by
  obtain ⟨n, hp⟩ := h.pending_kx (.inl hphase)
  unfold microInit
  split
  · exact h.of_same_flags rfl rfl rfl rfl (by simp [hp, Pending.phases]) (by simp) (by simp)
  · exact h.of_same_flags rfl rfl rfl rfl h.phase (by simp [hphase]) (by simp [hphase])

theorem microXor_keeps_coherent {s : State} (h : Coherent s) (hphase : s.seqPhase = .kxXor) :
    Coherent (microXor s) := by
  obtain ⟨n, hp⟩ := h.pending_kx (.inr (.inl hphase))
  have hi := h.xor_index hphase
  unfold microXor
  split
  · exact h.of_same_flags rfl rfl rfl rfl (by simp [hp, Pending.phases]) (by simp) (by simp)
  · have hnext : (nextI s.seqI).val ≤ 17 := by rw [val_nextI] <;> omega
    exact h.of_same_flags rfl rfl rfl rfl h.phase (fun _ => hnext) (by simp [hphase])

theorem microGen_keeps_coherent {s : State} (h : Coherent s) (hphase : s.seqPhase = .kxGen) :
    Coherent (microGen s) := by
  obtain ⟨n, hp⟩ := h.pending_kx (.inr (.inr hphase))
  have hi := h.gen_index hphase
  unfold microGen
  simp only
  split
  · split
    · have herr : s.err = .none := h.busy_err (h.busy_iff.mpr (by simp [hp]))
      exact coherent_of_idle rfl rfl rfl (fun _ => .inl herr)
    · have hnext : (nextI s.seqI).val ≤ 520 := by rw [val_nextI] <;> omega
      exact h.of_same_flags rfl rfl rfl rfl h.phase (by simp [hphase]) (fun _ => hnext)
  · exact h.of_same_control rfl rfl rfl rfl rfl rfl

theorem microBlk_keeps_coherent {s : State} (h : Coherent s) : Coherent (microBlk s) := by
  unfold microBlk
  simp only
  split
  · exact coherent_of_idle rfl rfl rfl h.valid_err
  · exact h.of_same_control rfl rfl rfl rfl rfl rfl

theorem microStep_keeps_coherent {s : State} (h : Coherent s) : Coherent (microStep s) := by
  cases hphase : s.seqPhase with
  | idle => rwa [microStep_of_idle hphase]
  | kxInit => rw [microStep_of_kxInit hphase]; exact microInit_keeps_coherent h hphase
  | kxXor => rw [microStep_of_kxXor hphase]; exact microXor_keeps_coherent h hphase
  | kxGen => rw [microStep_of_kxGen hphase]; exact microGen_keeps_coherent h hphase
  | blk => rw [microStep_of_blk hphase]; exact microBlk_keeps_coherent h

/-- Settles O38: a micro-step, like every other act, keeps `Coherent`. -/
theorem fineStepKeepsCoherent : Obligations.FineStepKeepsCoherent :=
  fun _ _ hs h => nextTurn_keeps_coherent microStep_keeps_coherent h hs

end Sys2Proof.Machine
end

section
/-! The sequencer stands where acceptance put it (10_state.md R30, 42_block_transform.md R102). -/

namespace Sys2Proof.Machine

theorem atStart_of_idle {s : State} (hb : s.busy = false) : AtStart s := fun h => by simp [hb] at h

/-- Acceptance puts the sequencer to its start: to put it there once more changes nothing. -/
theorem atStart_accept (p : Pending) (s : State) : AtStart (accept p s) := by
  intro _
  cases p <;> rfl

theorem startSequencer_setInputs (p : Pending) (us : List Turn) (s : State) :
    startSequencer p (setInputs us s) = setInputs us (startSequencer p s) := by
  cases p <;> rfl

theorem startSequencer_logRead (p : Pending) (n : Nat) (v : Word) (s : State) :
    startSequencer p (logRead n v s) = logRead n v (startSequencer p s) := by
  cases p <;> rfl

theorem setInputs_keeps_atStart {s : State} (us : List Turn) (h : AtStart s) : AtStart (setInputs us s) := by
  intro hb
  rw [setInputs_pending, startSequencer_setInputs, h hb]

theorem logRead_keeps_atStart {s : State} (n : Nat) (v : Word) (h : AtStart s) : AtStart (logRead n v s) := by
  intro hb
  rw [logRead_pending, startSequencer_logRead, h hb]

theorem CommandEnd.atStart {i : Instr} {s t : State} (ht : CommandEnd i s t) (hb : s.busy = false) : AtStart t := by
  cases ht with
  | expansion n _ => exact atStart_accept _ _
  | transform p _ _ => exact atStart_accept _ _
  | badLength | noCipher | dropped => exact atStart_of_idle hb

/-- A host write is discarded by a busy engine, and an idle one is busy afterwards only by an acceptance. -/
theorem WriteEnd.keeps_atStart {n : Nat} {v : Word} {s t : State} (ht : WriteEnd n v s t) (h : AtStart s) :
    AtStart t := by
  cases ht with
  | discarded => exact h
  | command hb _ i _ t ht => exact ht.atStart hb
  | illegal hb | keylen hb | dinL hb | dinR hb | keyw hb | ignored hb => exact atStart_of_idle hb

/-- Settles O39: `Complete` and reset end idle, and no other act moves a busy engine's sequencer or operands. -/
theorem stepKeepsAtStart : Obligations.StepKeepsAtStart :=
  ⟨atStart_of_idle rfl, fun _ _ hs h =>
    nextTurn_keeps setInputs_keeps_atStart logRead_keeps_atStart WriteEnd.keeps_atStart
      (fun _ => atStart_of_idle (complete_busy _)) (fun _ => atStart_of_idle rfl) h hs⟩

end Sys2Proof.Machine
end

section
/-! What a step can change (10_state.md R18, R19, R23 to R26, R29, R33): an observation of the engine changes by
`Complete`, by a host write or by reset only, and of each observation it is said which completions and which writes. -/

namespace Sys2Proof.Machine

/-- The next act is the engine's own: its turn is the next one, or no turn is left (log entry 8). -/
def EngineMoves (s : State) : Prop := s.inputs = [] ∨ ∃ rest, s.inputs = .engine :: rest

/-- The key buffer and `KEYLEN` as one observation. -/
def State.keyRegisters (s : State) : KeyBuffer × Word := (s.key, s.keylen)

/-- An observation that does not see the model's bookkeeping changes only by the engine's step, a host write or
reset. -/
theorem step_changes {α : Type} (f : State → α) (hinputs : ∀ us s, f (setInputs us s) = f s)
    (hlog : ∀ n v s, f (logRead n v s) = f s) {s t : State} (h : step s = .next t) (hne : f t ≠ f s) :
    (EngineMoves s ∧ f (complete s) ≠ f s) ∨
      (∃ n v rest, s.inputs = .hostWrite n v :: rest ∧ WriteEnd n v (setInputs rest s) t ∧
        f t ≠ f (setInputs rest s)) ∨
      ∃ rest, s.inputs = .reset :: rest := by
  obtain ⟨hi, rfl⟩ | ⟨turn, rest, hi, hturn⟩ := nextTurn_cases h
  · exact .inl ⟨.inl hi, hne⟩
  · cases hturn with
    | read n hn v => exact absurd ((hlog n v _).trans (hinputs rest s)) hne
    | write n v t ht => exact .inr (.inl ⟨n, v, rest, hi, ht, (hinputs rest s).symm ▸ hne⟩)
    | engine =>
      rw [complete_setInputs, hinputs] at hne
      exact .inl ⟨.inr ⟨rest, hi⟩, hne⟩
    | reset => exact .inr (.inr ⟨rest, hi⟩)

/-- `Complete` changes an observation that does not see the end of a command only through the pending command's
effect. -/
theorem complete_changes {α : Type} (f : State → α) (hfinish : ∀ s, f (finish s) = f s) {s : State}
    (hne : f (complete s) ≠ f s) : s.busy = true ∧ f (applyPending s) ≠ f s := by
  cases hb : s.busy with
  | false => exact absurd (congrArg f (complete_of_idle hb)) hne
  | true => exact ⟨rfl, by rwa [complete_of_busy hb, hfinish] at hne⟩

/-- Only a pending key expansion changes what no transform's result touches. -/
theorem pending_kx_of_complete_changes {α : Type} (f : State → α) (hfinish : ∀ s, f (finish s) = f s)
    (hdeliver : ∀ b s, f (deliver b s) = f s) {s : State} (hne : f (complete s) ≠ f s) :
    s.busy = true ∧ ∃ n, s.pending = .kx n := by
  obtain ⟨hb, hne⟩ := complete_changes f hfinish hne
  obtain hp | hp | hp | hp := pending_cases s
  · exact absurd (congrArg f (applyPending_none hp)) hne
  · exact ⟨hb, hp⟩
  · exact absurd (by rw [applyPending_enc hp, hdeliver]) hne
  · exact absurd (by rw [applyPending_dec hp, hdeliver]) hne

/-- Only a pending transform changes what no key expansion's result touches. -/
theorem pending_transform_of_complete_changes {α : Type} (f : State → α) (hfinish : ∀ s, f (finish s) = f s)
    (hinstall : ∀ c s, f (clearKey (installInstance c s)) = f s) {s : State} (hne : f (complete s) ≠ f s) :
    s.busy = true ∧ (s.pending = .enc ∨ s.pending = .dec) := by
  obtain ⟨hb, hne⟩ := complete_changes f hfinish hne
  obtain hp | ⟨n, hp⟩ | hp := pending_cases s
  · exact absurd (congrArg f (applyPending_none hp)) hne
  · exact absurd (by rw [applyPending_kx hp, hinstall]) hne
  · exact ⟨hb, hp⟩

/-! ### What each host write can change -/

theorem CommandEnd.tables_changes {i : Instr} {s t : State} (ht : CommandEnd i s t) (hne : t.tables ≠ s.tables) :
    i = .drop ∨ i = .keyexp ∧ (s.keylen.toNat < 4 ∨ 56 < s.keylen.toNat) := by
  cases ht with
  | badLength hi h => exact .inr ⟨hi, h⟩
  | dropped hi => exact .inl hi
  | expansion | transform | noCipher => simp [startExpansion] at hne

theorem CommandEnd.valid_changes {i : Instr} {s t : State} (ht : CommandEnd i s t) (hne : t.valid ≠ s.valid) :
    i = .keyexp ∨ i = .keyexp56 ∨ i = .drop := by
  cases ht with
  | expansion n h => exact h.elim (fun h => .inl h.1) (fun h => .inr (.inl h.1))
  | badLength hi h => exact .inl hi
  | dropped hi => exact .inr (.inr hi)
  | transform | noCipher => simp at hne

/-- Only `DROP` among the commands touches the block registers, the key buffer or `KEYLEN`. -/
theorem CommandEnd.dropped_or_sameOperands {i : Instr} {s t : State} (ht : CommandEnd i s t) :
    i = .drop ∨ SameBlocks s t ∧ SameKey s t := by
  cases ht with
  | dropped hi => exact .inl hi
  | expansion | badLength | transform | noCipher => exact .inr (by simp [SameBlocks, SameKey, startExpansion])

theorem WriteEnd.tables_changes {n : Nat} {v : Word} {s t : State} (ht : WriteEnd n v s t)
    (hne : t.tables ≠ s.tables) :
    s.busy = false ∧ n = 0 ∧ (v.toNat = 5 ∨ v.toNat = 1 ∧ (s.keylen.toNat < 4 ∨ 56 < s.keylen.toNat)) := by
  cases ht with
  | command hb hn i hd t ht =>
    have hv := toNat_of_decode hd
    obtain rfl | ⟨rfl, hlen⟩ := ht.tables_changes hne
    · exact ⟨hb, hn, .inl hv⟩
    · exact ⟨hb, hn, .inr ⟨hv, hlen⟩⟩
  | discarded | illegal | keylen | dinL | dinR | keyw | ignored => exact absurd rfl hne

theorem WriteEnd.valid_changes {n : Nat} {v : Word} {s t : State} (ht : WriteEnd n v s t) (hne : t.valid ≠ s.valid) :
    n = 0 ∧ (v.toNat = 1 ∨ v.toNat = 2 ∨ v.toNat = 5) := by
  cases ht with
  | command hb hn i hd t ht =>
    have hv := toNat_of_decode hd
    obtain rfl | rfl | rfl := ht.valid_changes hne
    · exact ⟨hn, .inl hv⟩
    · exact ⟨hn, .inr (.inl hv)⟩
    · exact ⟨hn, .inr (.inr hv)⟩
  | discarded | illegal | keylen | dinL | dinR | keyw | ignored => exact absurd rfl hne

theorem WriteEnd.err_changes {n : Nat} {v : Word} {s t : State} (ht : WriteEnd n v s t) (hne : t.err ≠ s.err) :
    s.busy = false ∧ n = 0 := by
  cases ht with
  | command hb hn | illegal hb hn => exact ⟨hb, hn⟩
  | discarded | keylen | dinL | dinR | keyw | ignored => exact absurd rfl hne

theorem WriteEnd.output_changes {n : Nat} {v : Word} {s t : State} (ht : WriteEnd n v s t)
    (hne : t.outputBlock ≠ s.outputBlock) : s.busy = false ∧ n = 0 ∧ v.toNat = 5 := by
  cases ht with
  | command hb hn i hd t ht =>
    obtain rfl | ⟨⟨-, -, hL, hR⟩, -⟩ := ht.dropped_or_sameOperands
    · exact ⟨hb, hn, toNat_of_decode hd⟩
    · simp [hL, hR] at hne
  | discarded | illegal | keylen | dinL | dinR | keyw | ignored => exact absurd rfl hne

theorem WriteEnd.input_changes {n : Nat} {v : Word} {s t : State} (ht : WriteEnd n v s t)
    (hne : t.inputBlock ≠ s.inputBlock) : s.busy = false ∧ (n = 4 ∨ n = 5 ∨ n = 0 ∧ v.toNat = 5) := by
  cases ht with
  | command hb hn i hd t ht =>
    obtain rfl | ⟨⟨hL, hR, -, -⟩, -⟩ := ht.dropped_or_sameOperands
    · exact ⟨hb, .inr (.inr ⟨hn, toNat_of_decode hd⟩)⟩
    · simp [hL, hR] at hne
  | dinL hb hn => exact ⟨hb, .inl hn⟩
  | dinR hb hn => exact ⟨hb, .inr (.inl hn)⟩
  | discarded | illegal | keylen | keyw | ignored => exact absurd rfl hne

theorem WriteEnd.key_changes {n : Nat} {v : Word} {s t : State} (ht : WriteEnd n v s t)
    (hne : t.keyRegisters ≠ s.keyRegisters) :
    s.busy = false ∧ (n = 2 ∨ 8 ≤ n ∧ n ≤ 21 ∨ n = 0 ∧ v.toNat = 5) := by
  cases ht with
  | command hb hn i hd t ht =>
    obtain rfl | ⟨-, hkey, hlen⟩ := ht.dropped_or_sameOperands
    · exact ⟨hb, .inr (.inr ⟨hn, toNat_of_decode hd⟩)⟩
    · simp [State.keyRegisters, hkey, hlen] at hne
  | keylen hb hn => exact ⟨hb, .inl hn⟩
  | keyw hb j hn => exact ⟨hb, .inr (.inl (by omega))⟩
  | discarded | illegal | dinL | dinR | ignored => exact absurd rfl hne

/-! ### The statements -/

/-- Settles O43: `Complete` changes the tables only for a key expansion, a host write only by `Destroy`. -/
theorem tablesChangeOnlyBy : Obligations.TablesChangeOnlyBy := by
  intro s t h hne
  have hne : t.tables ≠ s.tables := fun he => hne (CipherState.mk.inj he)
  obtain ⟨hmove, hne⟩ | ⟨n, v, rest, hi, ht, hne⟩ | hreset :=
    step_changes State.tables (fun _ _ => rfl) (fun _ _ _ => rfl) h hne
  · obtain ⟨hb, hp⟩ := pending_kx_of_complete_changes State.tables (fun _ => rfl) (fun _ _ => rfl) hne
    exact .inl ⟨hb, hp, hmove⟩
  · obtain ⟨hb, rfl, hv⟩ := ht.tables_changes hne
    exact .inr (.inl ⟨hb, v, rest, hi, hv⟩)
  · exact .inr (.inr hreset)

/-- Settles O44: `Complete` leaves `ERR` alone, and of the host writes only those to `CMD` do not. -/
theorem errChangesOnlyBy : Obligations.ErrChangesOnlyBy := by
  intro s t h hne
  obtain ⟨-, hne⟩ | ⟨n, v, rest, hi, ht, hne⟩ | hreset :=
    step_changes State.err (fun _ _ => rfl) (fun _ _ _ => rfl) h hne
  · exact absurd (complete_err s) hne
  · obtain ⟨hb, rfl⟩ := ht.err_changes hne
    exact .inl ⟨hb, v, rest, hi⟩
  · exact .inr hreset

/-- Settles O45: `Complete` changes the output only for a transform, a host write only by `DROP`. -/
theorem outputChangesOnlyBy : Obligations.OutputChangesOnlyBy := by
  intro s t h hne
  have hne : t.outputBlock ≠ s.outputBlock := by simpa [Classical.or_iff_not_imp_left] using hne
  obtain ⟨hmove, hne⟩ | ⟨n, v, rest, hi, ht, hne⟩ | hreset :=
    step_changes State.outputBlock (fun _ _ => rfl) (fun _ _ _ => rfl) h hne
  · obtain ⟨hb, hp⟩ := pending_transform_of_complete_changes State.outputBlock (fun _ => rfl) (fun _ _ => rfl) hne
    exact .inl ⟨hb, hp, hmove⟩
  · obtain ⟨hb, rfl, hv⟩ := ht.output_changes hne
    exact .inr (.inl ⟨hb, v, rest, hi, hv⟩)
  · exact .inr (.inr hreset)

theorem complete_inputBlock (s : State) : (complete s).inputBlock = s.inputBlock := by
  refine Classical.byContradiction fun hne => ?_
  obtain ⟨-, n, hkx⟩ := pending_kx_of_complete_changes State.inputBlock (fun _ => rfl) (fun _ _ => rfl) hne
  obtain ⟨-, htransform⟩ :=
    pending_transform_of_complete_changes State.inputBlock (fun _ => rfl) (fun _ _ => rfl) hne
  simp [hkx] at htransform

/-- Settles O46: the key and its length as the tables, but for the host's own writes; the input block, which no
completion touches, likewise. -/
theorem operandsChangeOnlyBy : Obligations.OperandsChangeOnlyBy := by
  intro s t h
  constructor
  · intro hne
    have hne : t.keyRegisters ≠ s.keyRegisters := fun he => hne (Prod.mk.inj he)
    obtain ⟨hmove, hne⟩ | ⟨n, v, rest, hi, ht, hne⟩ | hreset :=
      step_changes State.keyRegisters (fun _ _ => rfl) (fun _ _ _ => rfl) h hne
    · obtain ⟨hb, hp⟩ := pending_kx_of_complete_changes State.keyRegisters (fun _ => rfl) (fun _ _ => rfl) hne
      exact .inl ⟨hb, hp, hmove⟩
    · obtain ⟨hb, hn⟩ := ht.key_changes hne
      exact .inr (.inl ⟨hb, n, v, rest, hi, hn⟩)
    · exact .inr (.inr hreset)
  · intro hne
    have hne : t.inputBlock ≠ s.inputBlock := by simpa [Classical.or_iff_not_imp_left] using hne
    obtain ⟨-, hne⟩ | ⟨n, v, rest, hi, ht, hne⟩ | hreset :=
      step_changes State.inputBlock (fun _ _ => rfl) (fun _ _ _ => rfl) h hne
    · exact absurd (complete_inputBlock s) hne
    · obtain ⟨hb, hn⟩ := ht.input_changes hne
      exact .inl ⟨hb, n, v, rest, hi, hn⟩
    · exact .inr hreset

/-- `VALID` changes only by a completed key expansion, a `CMD` write of 1, 2 or 5, or reset (R27). -/
theorem validChangesOnlyBy {s t : State} (h : step s = .next t) (hne : t.valid ≠ s.valid) :
    (∃ n, s.pending = .kx n) ∨
      (∃ v rest, s.inputs = .hostWrite 0 v :: rest ∧ (v.toNat = 1 ∨ v.toNat = 2 ∨ v.toNat = 5)) ∨
      ∃ rest, s.inputs = .reset :: rest := by
  obtain ⟨-, hne⟩ | ⟨n, v, rest, hi, ht, hne⟩ | hreset :=
    step_changes State.valid (fun _ _ => rfl) (fun _ _ _ => rfl) h hne
  · exact .inl (pending_kx_of_complete_changes State.valid (fun _ => rfl) (fun _ _ => rfl) hne).2
  · obtain ⟨rfl, hv⟩ := ht.valid_changes hne
    exact .inr (.inl ⟨v, rest, hi, hv⟩)
  · exact .inr (.inr hreset)

/-- Settles O42: no key expansion is pending in a coherent state with `VALID = 1`, and the other acts that
change `VALID` or the tables are excluded. -/
theorem cipherStateIsImmutable : Obligations.CipherStateIsImmutable := by
  intro s t hs hvalid h hnoReset hnoCommand
  have noExpansion (n : KeyLength) : s.pending ≠ .kx n := fun hp => by simp [hs.expanding n hp] at hvalid
  constructor
  · rw [← hvalid]
    refine Classical.byContradiction fun hne => ?_
    obtain ⟨n, hp⟩ | ⟨v, rest, hi, hv⟩ | ⟨rest, hi⟩ := validChangesOnlyBy h hne
    · exact noExpansion n hp
    · have := hnoCommand v rest hi
      omega
    · exact hnoReset rest hi
  · refine Classical.byContradiction fun hne => ?_
    obtain ⟨-, ⟨n, hp⟩, -⟩ | ⟨-, v, rest, hi, hv⟩ | ⟨rest, hi⟩ := tablesChangeOnlyBy s t h hne
    · exact noExpansion n hp
    · have := hnoCommand v rest hi
      omega
    · exact hnoReset rest hi

end Sys2Proof.Machine
end

section
/-! Key bytes at `KEYLEN` and beyond (10_state.md R24): a key expansion reads the declared bytes only. -/

namespace Sys2Proof.Machine

/-- The cyclic key stream of length `n` reads bytes below `n` only (R46). -/
theorem keyByte_congr {key key' : KeyBuffer} {n : KeyLength} (h : ∀ k : Fin 56, k.val < n.val → key'[k] = key[k])
    (k : Nat) : keyByte key' n k = keyByte key n k := by
  have hpos := n.ge_four
  have hlt : k % n.val < n.val := Nat.mod_lt k (by omega)
  exact h ⟨k % n.val, Nat.lt_of_lt_of_le hlt n.le_fiftySix⟩ hlt

/-- An accepted key expansion completes with the tables of its key and the key buffer cleared (R77, R83). -/
theorem complete_startExpansion (n : KeyLength) (s : State) :
    complete (startExpansion n s) =
      finish (clearKey (installInstance (expandKey s.key n) (startExpansion n s))) := by
  have hb : (startExpansion n s).busy = true := accept_busy _ _
  have hp : (startExpansion n s).pending = .kx n := accept_pending _ _
  rw [complete_of_busy hb, applyPending_kx hp]
  rfl

/-- Settles O31: both runs expand the same key stream, and the completion clears the whole buffer. -/
theorem unusedKeyBytesAreIgnored : Obligations.UnusedKeyBytesAreIgnored := by
  intro s key' _ hge hle hkey
  let n : KeyLength := ⟨s.keylen.toNat, hge, hle⟩
  have hstream : expandKey key' n = expandKey s.key n := expandKey_congr (keyByte_congr hkey)
  refine ⟨_, _, execKeyexp_of_length (n := n) rfl, execKeyexp_of_length (n := n) rfl, ?_⟩
  rw [complete_startExpansion, complete_startExpansion, hstream]
  generalize expandKey s.key n = c
  rfl

end Sys2Proof.Machine
end

section
/-! The register port: `STATUS` (10_state.md R22), undecoded accesses (R20, 20_memory.md R53), and what the host's reads
cannot see (R18, R19, R24). -/

namespace Sys2Proof.Machine

/-- Settles O1: the values of R38, and a step without a listed turn is `Complete` at an idle engine. -/
theorem resetHoldsTheSpecsValues : Obligations.ResetHoldsTheSpecsValues := by
  have hkey (k : Nat) (h : k < 56) : State.reset.key[k] = 0#8 := Vector.getElem_replicate h
  have hstep : step State.reset = .next State.reset := (step_of_none rfl).trans (by rw [complete_of_idle rfl])
  exact ⟨rfl, rfl, rfl, rfl, rfl, hkey, rfl, rfl, rfl, rfl, rfl, rfl, rfl, hstep⟩

/-! ### `STATUS` -/

/-- The fields of `STATUS` do not overlap, so the sum of R22 is their union. -/
theorem status_eq_or (s : State) :
    s.status = (s.err.code.setWidth 32 <<< 8) ||| ((BitVec.ofBool s.valid).setWidth 32 <<< 1) |||
      (BitVec.ofBool s.busy).setWidth 32 := by
  unfold State.status
  cases s.err <;> cases s.valid <;> cases s.busy <;> rfl

/-- `STATUS` bit by bit. -/
theorem getLsbD_status (s : State) (i : Nat) :
    s.status.getLsbD i = (!decide (i < 8) && s.err.code.getLsbD (i - 8) || decide (i = 1) && s.valid ||
      decide (i = 0) && s.busy) := by
  rw [status_eq_or]
  by_cases h : i < 11
  · have h32 : i < 32 ∧ i - 8 < 32 ∧ i - 1 < 32 := by omega
    have h1 : i = 1 ↔ i ≠ 0 ∧ i - 1 = 0 := by omega
    simp [h32, h1, Bool.and_assoc]
  · have h0 : i ≠ 0 ∧ i ≠ 1 ∧ i - 1 ≠ 0 := by omega
    simp [h0, BitVec.getLsbD_of_ge s.err.code (i - 8) (by omega)]

theorem status_err_field (s : State) : s.status.extractLsb' 8 3 = s.err.code := by
  unfold State.status
  cases s.err <;> cases s.valid <;> cases s.busy <;> rfl

/-- A write to `STATUS` is discarded or ignored. -/
theorem hostWrite_status (v : Word) (s : State) : hostWrite 1 v s = .next s := by
  cases hb : s.busy <;> simp [hostWrite, hb, writeReg]

/-- Settles O3: the bits by the fields of the word; the accesses by the rules of register 1. -/
theorem statusWordLayout : Obligations.StatusWordLayout := by
  refine ⟨rfl, fun s => ⟨?_, ?_, status_err_field s, ?_, ?_, ?_, ?_⟩⟩
  · rw [getLsbD_status]; rfl
  · rw [getLsbD_status]; simp
  · intro i h2 h7
    have : i < 8 ∧ i ≠ 1 ∧ i ≠ 0 := by omega
    simp [getLsbD_status, this]
  · intro i h11
    have : i ≠ 1 ∧ i ≠ 0 := by omega
    simp [getLsbD_status, this, BitVec.getLsbD_of_ge s.err.code (i - 8) (by omega)]
  · exact fun rest => step_hostRead s regOfNumber_one rest
  · intro v rest
    rw [step_of_cons (turn := .hostWrite 1 v) (rest := rest) rfl]
    exact hostWrite_status v (setInputs rest s)

/-! ### Undecoded accesses -/

theorem step_hostRead_undecoded {n : Nat} (hn : 31 < n) (s : State) (rest : List Turn) :
    step (setInputs (.hostRead n :: rest) s) = .refused (.registerNotDecoded n) := by
  rw [step_of_cons (turn := .hostRead n) (rest := rest) rfl]
  simp only [takeTurn, hostRead, regOfNumber_eq_none.mpr hn]

theorem step_hostWrite_undecoded {n : Nat} (hn : 31 < n) (v : Word) (s : State) (rest : List Turn) :
    step (setInputs (.hostWrite n v :: rest) s) = .refused (.registerNotDecoded n) := by
  rw [step_of_cons (turn := .hostWrite n v) (rest := rest) rfl]
  simp only [takeTurn, hostWrite, regOfNumber_eq_none.mpr hn]

theorem step_partialAccess (n : Nat) (s : State) (rest : List Turn) :
    step (setInputs (.partialAccess n :: rest) s) = .refused (.accessNotWholeRegister n) :=
  step_of_cons (turn := .partialAccess n) (rest := rest) rfl

/-- Settles O6: a host access at an undecoded register number and a partial access are each refused. -/
theorem undecodedAccessIsRefused : Obligations.UndecodedAccessIsRefused :=
  fun s rest n v => ⟨fun hn => ⟨step_hostRead_undecoded hn s rest, step_hostWrite_undecoded hn v s rest⟩,
    step_partialAccess n s rest⟩

/-! ### Reads and the secret -/

/-- No register shows `P`, `S` or the key buffer. -/
theorem readReg_withSecret (s : State) (P : PArray) (S : SBoxes) (key : KeyBuffer) (r : Reg) :
    readReg { s with P := P, S := S, key := key } r = readReg s r := by
  cases r <;> rfl

/-- Settles O50, by induction on the reads: each notes the same word in both states, or is refused in both. -/
theorem hostReadsRevealNoSecret : Obligations.HostReadsRevealNoSecret := by
  intro s s' us hus
  rintro ⟨P, S, key, rfl⟩ t t' h h'
  induction us generalizing s with
  | nil => cases h; cases h'; rfl
  | cons turn rest ih =>
    obtain ⟨⟨n, rfl⟩, hrest⟩ := List.forall_mem_cons.mp hus
    cases hr : regOfNumber n with
    | none =>
      have hrefused := step_hostRead_undecoded (regOfNumber_eq_none.mp hr) s rest
      simp [runSteps, hrefused] at h
    | some r =>
      rw [List.length_cons, runSteps_succ _ (step_hostRead _ hr rest)] at h h'
      rw [readReg_withSecret] at h'
      exact ih (logRead n (readReg s r) s) hrest h h'

end Sys2Proof.Machine
end

section
/-! Bytes and words (20_memory.md R48, R50), and the key word a host write leaves (R24, R51). -/

namespace Sys2Proof.Machine

/-! ### Blocks as bytes -/

@[simp] theorem blockOfBytes_bytesOfBlock (b : Block) : blockOfBytes (bytesOfBlock b) = b := by
  cases b
  simp [blockOfBytes, bytesOfBlock]

@[simp] theorem bytesOfBlock_blockOfBytes (v : Vector Byte 8) : bytesOfBlock (blockOfBytes v) = v := by
  refine Vector.ext fun k hk => ?_
  obtain rfl | rfl | rfl | rfl | rfl | rfl | rfl | rfl :
      k = 0 ∨ k = 1 ∨ k = 2 ∨ k = 3 ∨ k = 4 ∨ k = 5 ∨ k = 6 ∨ k = 7 := by omega
  all_goals simp [bytesOfBlock, blockOfBytes]

/-- Settles O7: the value of `be32` is the sum of its shifted bytes; packing and splitting undo each other word by
word, and so for the two halves of a block. -/
theorem bytesAndWordsAreBigEndian : Obligations.BytesAndWordsAreBigEndian := by
  refine ⟨fun _ => ⟨rfl, rfl⟩, fun a b c d => ?_, be32_byteOf, blockOfBytes_bytesOfBlock, bytesOfBlock_blockOfBytes⟩
  rw [be32_toNat]
  omega

/-! ### Words of the key -/

/-- Byte `c` of the four that stand from `4i` on. -/
theorem ofNat_four_mul_add (i : Nat) (c : Fin 4) : Fin.ofNat 4 (4 * i + c.val) = c :=
  Fin.ext ((Nat.mul_add_mod 4 i c.val).trans (Nat.mod_eq_of_lt c.isLt))

/-- The key stream's byte `k` below the declared length after a write of `KEYWj` (R24, R46). -/
theorem keyByte_writeKeyWord (j : Fin 14) (v : Word) (s : State) (n : KeyLength) {k : Nat} (h : k < n.val) :
    keyByte (writeKeyWord j v s).key n k =
      if k / 4 = j.val then byteOf (Fin.ofNat 4 k) v else keyByte s.key n k := by
  rw [keyByte_of_lt _ n h, keyByte_of_lt _ n h, getElem_writeKeyWord]

/-- A write of `KEYWj` replaces word `j` of the key and no other word that ends below the declared length (R51). -/
theorem keyWord_writeKeyWord (j : Fin 14) (v : Word) (s : State) (n : KeyLength) {i : Nat} (h : 4 * i + 3 < n.val) :
    keyWord (writeKeyWord j v s).key n i = if i = j.val then v else keyWord s.key n i := by
  have hword : 4 * i / 4 = i ∧ (4 * i + 1) / 4 = i ∧ (4 * i + 2) / 4 = i ∧ (4 * i + 3) / 4 = i := by omega
  have hbyte : Fin.ofNat 4 (4 * i) = 0 ∧ Fin.ofNat 4 (4 * i + 1) = 1 ∧ Fin.ofNat 4 (4 * i + 2) = 2 ∧
      Fin.ofNat 4 (4 * i + 3) = 3 :=
    ⟨ofNat_four_mul_add i 0, ofNat_four_mul_add i 1, ofNat_four_mul_add i 2, ofNat_four_mul_add i 3⟩
  unfold keyWord
  rw [keyByte_writeKeyWord j v s n (by omega), keyByte_writeKeyWord j v s n (by omega),
    keyByte_writeKeyWord j v s n (by omega), keyByte_writeKeyWord j v s n h]
  simp only [hword, hbyte]
  split
  · exact be32_byteOf v
  · rfl

/-- Settles O26: the bytes by `getElem_writeKeyWord`; a word below `n / 4` ends below the length, so it does not wrap. -/
theorem writtenKeyWordIsReadBack : Obligations.WrittenKeyWordIsReadBack := by
  intro s j v
  refine ⟨getElem_writeKeyWord j v s, fun n _ hj => ⟨?_, fun i hi hne => ?_⟩⟩
  · rw [keyWord_writeKeyWord j v s n (by omega), if_pos rfl]
  · rw [keyWord_writeKeyWord j v s n (by omega), if_neg (Fin.val_ne_of_ne hne)]

end Sys2Proof.Machine
end

section
/-! The encoding of the commands (30_encoding.md R60, R61, R65, R69): decode and encode agree, and the decoder agrees
with the search of the opcode table and with the well-formedness check. -/

namespace Sys2Proof

/-! ### Decode and encode -/

@[simp] theorem decode_encode (i : Instr) : decode (encode i) = .command i := by
  cases i <;> rfl

/-- Only a command's own word selects it: all 32 bits must match (R61). -/
theorem encode_of_decode {w : Word} {i : Instr} (h : decode w = .command i) : encode i = w :=
  BitVec.eq_of_toNat_eq (toNat_of_decode h).symm

theorem decode_eq_command_iff {w : Word} {i : Instr} : decode w = .command i ↔ encode i = w :=
  ⟨encode_of_decode, fun h => h ▸ decode_encode i⟩

theorem decode_eq_command_iff_toNat {w : Word} {i : Instr} : decode w = .command i ↔ w.toNat = (encode i).toNat :=
  ⟨toNat_of_decode, fun h => decode_eq_command_iff.mpr (BitVec.eq_of_toNat_eq h.symm)⟩

/-- The words of the commands are those of value 1 to 5 (R61). -/
theorem exists_decode_command_iff {w : Word} : (∃ i, decode w = .command i) ↔ 1 ≤ w.toNat ∧ w.toNat ≤ 5 := by
  constructor
  · rintro ⟨i, h⟩
    rw [toNat_of_decode h]
    cases i <;> decide
  · intro h
    obtain h | h | h | h | h : w.toNat = 1 ∨ w.toNat = 2 ∨ w.toNat = 3 ∨ w.toNat = 4 ∨ w.toNat = 5 := by omega
    · exact ⟨.keyexp, decode_eq_command_iff_toNat.mpr h⟩
    · exact ⟨.keyexp56, decode_eq_command_iff_toNat.mpr h⟩
    · exact ⟨.encrypt, decode_eq_command_iff_toNat.mpr h⟩
    · exact ⟨.decrypt, decode_eq_command_iff_toNat.mpr h⟩
    · exact ⟨.drop, decode_eq_command_iff_toNat.mpr h⟩

theorem exists_decode_illegal_iff {w : Word} :
    (∃ why, decode w = .illegal why) ↔ ¬ ∃ i, decode w = .command i := by
  cases decode w <;> simp

/-! ### The table search and the well-formedness check -/

/-- The search of R69 finds a command exactly when the word is the command's: the mask is all ones. -/
theorem decodeByTable_eq_some_iff {w : Word} {i : Instr} : decodeByTable w = some i ↔ encode i = w := by
  constructor
  · intro h
    have hmatch : (w &&& 0xFFFFFFFF#32) = encode i := by simpa using List.find?_some h
    rw [← hmatch]
    exact BitVec.and_allOnes
  · rintro rfl
    cases i <;> rfl

/-- The check of the two fields, by the value of the word. -/
theorem commandWordWellFormed_iff {w : Word} : commandWordWellFormed w = true ↔ 1 ≤ w.toNat ∧ w.toNat ≤ 5 := by
  have hfields := word_eq_fields w
  have hop := (fieldOp w).isLt
  have hzero : zeroFieldClear w = true ↔ (fieldZero w).toNat = 0 := beq_iff_eq.trans BitVec.toNat_inj.symm
  have hassigned : opAssigned w = true ↔ 1 ≤ (fieldOp w).toNat ∧ (fieldOp w).toNat ≤ 5 := by
    simp [opAssigned, fieldOp]
  rw [commandWordWellFormed, Bool.and_eq_true, hzero, hassigned]
  omega

/-! ### The statements -/

/-- Settles O9: each clause says of a command and a word that the word is the command's encoding, or, for the last
one, that its value is 1 to 5. -/
theorem decodeInvertsEncode : Obligations.DecodeInvertsEncode :=
  ⟨decode_encode, fun _ _ => encode_of_decode,
    fun _ _ => decode_eq_command_iff.trans decodeByTable_eq_some_iff.symm,
    fun _ => commandWordWellFormed_iff.trans exists_decode_command_iff.symm⟩

/-- Settles O8: a command is decoded from the one word of its value; every other value is illegal. -/
theorem decodeAcceptsExactlyTheTable : Obligations.DecodeAcceptsExactlyTheTable := by
  refine fun w => ⟨decode_eq_command_iff_toNat, decode_eq_command_iff_toNat, decode_eq_command_iff_toNat,
    decode_eq_command_iff_toNat, decode_eq_command_iff_toNat, ?_⟩
  rw [exists_decode_illegal_iff, exists_decode_command_iff]
  omega

/-- Settles O10: the first five words are the encodings of the commands; the others by their values. -/
theorem decodeOfWrittenOutWords : Obligations.DecodeOfWrittenOutWords :=
  ⟨decode_encode .keyexp, decode_encode .keyexp56, decode_encode .encrypt, decode_encode .decrypt, decode_encode .drop,
    decode_eq _, decode_eq _, decode_eq _, decode_eq _⟩

end Sys2Proof
end

section
/-! The commands as acts at the `CMD` register (30_encoding.md R62, R63): a step of a command's word is the command,
what each leaves unchanged, and that no command sees the turns to come. -/

namespace Sys2Proof.Machine

/-! ### From the word to the command -/

theorem commandWrite_of_command {v : Word} {i : Instr} (s : State) (h : decode v = .command i) :
    commandWrite v s = exec i s := by
  simp only [commandWrite, h]

/-- A `CMD` write of a command's word at an idle engine runs the command. -/
theorem step_commandWrite {s : State} {v : Word} {i : Instr} (hb : s.busy = false) (h : decode v = .command i)
    (rest : List Turn) : step (setInputs (.hostWrite 0 v :: rest) s) = exec i (setInputs rest s) :=
  (step_hostWrite regOfNumber_zero hb rest).trans (commandWrite_of_command _ h)

theorem decode_of_decodeTableWord {nbits w : Nat} {i : Instr} (h : decodeTableWord nbits w = some i) :
    decode (BitVec.ofNat 32 (w % 2 ^ nbits)) = .command i := by
  unfold decodeTableWord at h
  split at h
  · rename_i j hj
    cases h
    exact hj
  · cases h

/-- Settles O11: a placed word is a `CMD` write in front of the turns the state already has. -/
theorem stepRunsTheDecodedCommand : Obligations.StepRunsTheDecodedCommand :=
  ⟨fun _ rest _ _ hb h => step_commandWrite hb h rest,
    fun s _ _ _ hb h => step_commandWrite hb (decode_of_decodeTableWord h) s.inputs⟩

/-! ### The frame of a command -/

theorem CommandEnd.sameHost {i : Instr} {s t : State} (ht : CommandEnd i s t) : SameHost s t := by
  cases ht with
  | expansion | transform => simp [SameHost, startExpansion]
  | badLength | noCipher | dropped => exact ⟨rfl, rfl⟩

theorem CommandEnd.draws_eq {i : Instr} {s t : State} (ht : CommandEnd i s t) : t.draws = s.draws := by
  cases ht with
  | expansion | transform => simp [startExpansion]
  | badLength | noCipher | dropped => rfl

/-- A command that is neither `DROP` nor refused for its length leaves the tables. -/
theorem CommandEnd.sameTables {i : Instr} {s t : State} (ht : CommandEnd i s t) (hdrop : i ≠ .drop)
    (hlen : i = .keyexp → 4 ≤ s.keylen.toNat ∧ s.keylen.toNat ≤ 56) : SameTables s t := by
  refine CipherState.mk.inj (Classical.byContradiction fun hne => ?_)
  obtain hi | ⟨hi, hbad⟩ := ht.tables_changes hne
  · exact hdrop hi
  · have := hlen hi
    omega

theorem CommandEnd.valid_eq_of_transform {i : Instr} {s t : State} (ht : CommandEnd i s t)
    (hi : i = .encrypt ∨ i = .decrypt) : t.valid = s.valid := by
  refine Classical.byContradiction fun hne => ?_
  obtain rfl | rfl | rfl := ht.valid_changes hne <;> simp at hi

/-- Only an acceptance touches `PENDING`, the sequencer or the working block, and it sets `BUSY`. -/
theorem CommandEnd.sequencer_of_idle {i : Instr} {s t : State} (ht : CommandEnd i s t) (hb : t.busy = false) :
    t.pending = s.pending ∧ t.seqPhase = s.seqPhase ∧ t.seqI = s.seqI ∧ t.seqT = s.seqT ∧
      t.workL = s.workL ∧ t.workR = s.workR := by
  cases ht with
  | expansion | transform => simp [startExpansion] at hb
  | badLength | noCipher | dropped => exact ⟨rfl, rfl, rfl, rfl, rfl, rfl⟩

/-- Settles O21: each clause from the ways a command can end. -/
theorem commandFrame : Obligations.CommandFrame := by
  intro i s t _ h
  have ht := exec_cases h
  refine ⟨ht.sameHost, ht.draws_eq, fun hi => ht.dropped_or_sameOperands.resolve_left hi, fun hi => ?_,
    fun hi hlen => ht.sameTables (by simp [hi]) (fun _ => hlen), ht.valid_eq_of_transform, ht.sequencer_of_idle⟩
  obtain rfl | rfl | rfl := hi <;> exact ht.sameTables (by simp) (by simp)

/-! ### Commands and the turns to come -/

theorem startTransform_setInputs {p : Pending} (us : List Turn) (s : State) :
    startTransform p (setInputs us s) = setInputs us (startTransform p s) := by
  cases hv : s.valid with
  | true => rw [startTransform_of_valid p hv, startTransform_of_valid (s := setInputs us s) p hv]; cases p <;> rfl
  | false => rw [startTransform_of_invalid p hv, startTransform_of_invalid (s := setInputs us s) p hv]; rfl

theorem execKeyexp_setInputs {s t : State} (us : List Turn) (h : execKeyexp s = .next t) :
    execKeyexp (setInputs us s) = .next (setInputs us t) := by
  unfold execKeyexp at h ⊢
  rw [setInputs_keylen]
  cases hn : acceptedLength s.keylen with
  | some n => simp only [hn] at h ⊢; cases h; rfl
  | none => simp only [hn] at h ⊢; cases h; rfl

/-- A command neither reads nor writes the turns to come. -/
theorem exec_setInputs {i : Instr} {s t : State} (us : List Turn) (h : exec i s = .next t) :
    exec i (setInputs us s) = .next (setInputs us t) := by
  cases i with
  | keyexp => exact execKeyexp_setInputs us h
  | keyexp56 => cases h; rfl
  | encrypt => cases h; exact congrArg _ (startTransform_setInputs us s)
  | decrypt => cases h; exact congrArg _ (startTransform_setInputs us s)
  | drop => cases h; rfl

end Sys2Proof.Machine
end

section
/-! Listed turns as runs (30_encoding.md R67; log entry 6): what the engine is after some listed turns, whatever turns
come after them; runs of more turns are put together from runs of fewer. -/

namespace Sys2Proof.Machine

/-- The listed turns `us` take the engine from `s` to `t`, one step a turn, whatever turns are listed after them. -/
def RunTurns (us : List Turn) (s t : State) : Prop :=
  ∀ rest, runSteps us.length (setInputs (us ++ rest) s) = .next (setInputs rest t)

theorem RunTurns.nil (s : State) : RunTurns [] s s := fun _ => rfl

theorem RunTurns.append {us vs : List Turn} {s t u : State} (h : RunTurns us s t) (h' : RunTurns vs t u) :
    RunTurns (us ++ vs) s u := by
  intro rest
  rw [List.length_append, List.append_assoc, runSteps_add _ _ (h (vs ++ rest))]
  exact h' rest

/-- A run of listed turns with no turn after them is the run of as many steps. -/
theorem RunTurns.runSteps_eq {us : List Turn} {s t : State} (h : RunTurns us s t) :
    runSteps us.length (setInputs us s) = .next (setInputs [] t) := by
  simpa using h []

/-! ### One turn -/

theorem runTurns_of_step {turn : Turn} {s t : State}
    (h : ∀ rest, step (setInputs (turn :: rest) s) = .next (setInputs rest t)) : RunTurns [turn] s t :=
  fun rest => runSteps_succ 0 (h rest)

theorem runTurns_engine (s : State) : RunTurns [.engine] s (complete s) :=
  runTurns_of_step fun rest => step_engine rest s

theorem runTurns_hostRead {n : Nat} {r : Reg} (s : State) (hr : regOfNumber n = some r) :
    RunTurns [.hostRead n] s (logRead n (readReg s r) s) :=
  runTurns_of_step (step_hostRead s hr)

theorem runTurns_setKeylen {s : State} (hb : s.busy = false) (v : Word) :
    RunTurns [.hostWrite 2 v] s (setKeylen v s) :=
  runTurns_of_step (step_hostWrite regOfNumber_two hb)

theorem runTurns_setDinL {s : State} (hb : s.busy = false) (v : Word) : RunTurns [.hostWrite 4 v] s (setDinL v s) :=
  runTurns_of_step (step_hostWrite regOfNumber_four hb)

theorem runTurns_setDinR {s : State} (hb : s.busy = false) (v : Word) : RunTurns [.hostWrite 5 v] s (setDinR v s) :=
  runTurns_of_step (step_hostWrite regOfNumber_five hb)

theorem runTurns_writeKeyWord {s : State} (hb : s.busy = false) (j : Fin 14) (v : Word) :
    RunTurns [.hostWrite (8 + j.val) v] s (writeKeyWord j v s) :=
  runTurns_of_step (step_hostWrite (regOfNumber_keyw j) hb)

theorem runTurns_command {i : Instr} {s t : State} (hb : s.busy = false) (h : exec i s = .next t) :
    RunTurns [commandTurn i] s t :=
  runTurns_of_step fun rest => (step_commandWrite hb (decode_encode i) rest).trans (exec_setInputs rest h)

/-! ### `WAIT` -/

/-- Reads of `STATUS` change the host's log only. -/
theorem runTurns_polls (polls : Nat) (s : State) :
    ∃ log, RunTurns (List.replicate polls (.hostRead 1)) s (setLog log s) := by
  induction polls with
  | zero => exact ⟨s.hostLog, .nil s⟩
  | succ polls ih =>
    obtain ⟨log, hlog⟩ := ih
    rw [List.replicate_succ']
    exact ⟨_, hlog.append (runTurns_hostRead _ regOfNumber_one)⟩

/-- `WAIT` completes what is pending, and its last read returns `STATUS` after that, however often it polls (R67). -/
theorem runTurns_wait (polls : Nat) (s : State) :
    ∃ log, RunTurns (waitTurns polls) s (setLog ((1, (complete s).status) :: log) (complete s)) := by
  obtain ⟨log, hlog⟩ := runTurns_polls polls s
  have hengine := runTurns_engine (setLog log s)
  rw [complete_setLog] at hengine
  exact ⟨log, hlog.append (hengine.append (runTurns_hostRead _ regOfNumber_one))⟩

theorem runTurns_wait_idle (polls : Nat) (s : State) : ∃ t, RunTurns (waitTurns polls) s t ∧ t.busy = false := by
  obtain ⟨log, hwait⟩ := runTurns_wait polls s
  exact ⟨_, hwait, complete_busy s⟩

/-! ### The key words -/

/-- The word of the key that stands at `4j` has the key's bytes, absent ones as `0x00` (R68). -/
theorem byteOf_keyWordToWrite (key : List Byte) (j : Nat) (c : Fin 4) :
    byteOf c (keyWordToWrite key j) = key.getD (4 * j + c.val) 0#8 := by
  match c with
  | 0 => exact byteOf_zero_be32 ..
  | 1 => exact byteOf_one_be32 ..
  | 2 => exact byteOf_two_be32 ..
  | 3 => exact byteOf_three_be32 ..

theorem getElem_writeKeyWord_keyWordToWrite (key : List Byte) (j : Fin 14) (s : State) (k : Nat) (hk : k < 56) :
    (writeKeyWord j (keyWordToWrite key j) s).key[k] = if k / 4 = j.val then key.getD k 0#8 else s.key[k] := by
  rw [getElem_writeKeyWord]
  split
  · rename_i hj
    have hc : 4 * j.val + k % 4 = k := by omega
    rw [byteOf_keyWordToWrite, Fin.val_ofNat, hc]
  · rfl

/-- The first `m` key-word writes put the first `4m` bytes of the key into the buffer. -/
theorem runTurns_keyWords (key : List Byte) {s : State} (hb : s.busy = false) {m : Nat} (hm : m ≤ 14) :
    ∃ t, RunTurns ((List.range m).map fun j => .hostWrite (8 + j) (keyWordToWrite key j)) s t ∧ t.busy = false ∧
      ∀ (k : Nat) (hk : k < 56), k < 4 * m → t.key[k] = key.getD k 0#8 := by
  induction m with
  | zero => exact ⟨s, .nil s, hb, fun k _ h => by omega⟩
  | succ m ih =>
    obtain ⟨t, ht, htb, htkey⟩ := ih (by omega)
    let j : Fin 14 := ⟨m, by omega⟩
    rw [List.range_succ, List.map_append]
    refine ⟨_, ht.append (runTurns_writeKeyWord htb j (keyWordToWrite key m)), htb, fun k hk h => ?_⟩
    rw [getElem_writeKeyWord_keyWordToWrite key j t k hk]
    split
    · rfl
    · have hne : k / 4 ≠ m := ‹_›
      exact htkey k hk (by omega)

/-- The writes of the key put every byte of it that the buffer can hold into the buffer (R24, R68). -/
theorem runTurns_key (key : List Byte) {s : State} (hb : s.busy = false) :
    ∃ t, RunTurns (keyTurns key) s t ∧ t.busy = false ∧
      ∀ k : Fin 56, k.val < key.length → some t.key[k] = key[k.val]? := by
  obtain ⟨t, ht, htb, htkey⟩ := runTurns_keyWords key hb (Nat.min_le_left 14 ((key.length + 3) / 4))
  refine ⟨t, ht, htb, fun k hk => ?_⟩
  have hkm : k.val < 4 * min 14 ((key.length + 3) / 4) := by omega
  have hbyte : t.key[k.val] = key.getD k.val 0#8 := htkey k.val k.isLt hkm
  rw [Fin.getElem_fin, hbyte, List.getD_eq_getElem?_getD, List.getElem?_eq_getElem hk, Option.getD_some]

/-- `WAIT` and the writes of the key, from every state (R68). -/
theorem runTurns_wait_key (polls : Nat) (key : List Byte) (s : State) :
    ∃ t, RunTurns (waitTurns polls ++ keyTurns key) s t ∧ t.busy = false ∧
      ∀ k : Fin 56, k.val < key.length → some t.key[k] = key[k.val]? := by
  obtain ⟨u, hu, hub⟩ := runTurns_wait_idle polls s
  obtain ⟨t, ht, htb, htkey⟩ := runTurns_key key hub
  exact ⟨t, hu.append ht, htb, htkey⟩

end Sys2Proof.Machine
end

section
/-! The document's operations as host sequences (30_encoding.md R68): each is a run of listed turns put together from
the runs of its parts. -/

namespace Sys2Proof.Machine

/-! ### `construct` and `construct56` -/

theorem status_of_ready {s : State} (herr : s.err = .none) (hvalid : s.valid = true) (hb : s.busy = false) :
    s.status = 0x00000002#32 := by
  unfold State.status
  rw [herr, hvalid, hb]
  rfl

theorem status_of_invalidLength {s : State} (herr : s.err = .invalidLength) (hvalid : s.valid = false)
    (hb : s.busy = false) : s.status = 0x00000100#32 := by
  unfold State.status
  rw [herr, hvalid, hb]
  rfl

/-- The `WAIT` after an accepted key expansion ends with `VALID = 1` and the tables of the key in the buffer. -/
theorem runTurns_wait_expansion (polls : Nat) (n : KeyLength) (s : State) :
    ∃ t, RunTurns (waitTurns polls) (startExpansion n s) t ∧ t.busy = false ∧ t.valid = true ∧
      t.hostLog.head? = some (1, 0x00000002#32) ∧ t.P = (expandKey s.key n).P ∧ t.S = (expandKey s.key n).S := by
  obtain ⟨log, hwait⟩ := runTurns_wait polls (startExpansion n s)
  rw [complete_startExpansion] at hwait
  generalize expandKey s.key n = c at hwait ⊢
  exact ⟨_, hwait, rfl, rfl, congrArg (fun v => some (1, v)) (status_of_ready rfl rfl rfl), rfl, rfl⟩

/-- The `WAIT` after a refusal of the length ends with `VALID = 0`. -/
theorem runTurns_wait_badLength (polls : Nat) {s : State} (hb : s.busy = false) :
    ∃ t, RunTurns (waitTurns polls) (raise .invalidLength (destroy s)) t ∧ t.busy = false ∧ t.valid = false ∧
      t.hostLog.head? = some (1, 0x00000100#32) := by
  obtain ⟨log, hwait⟩ := runTurns_wait polls (raise .invalidLength (destroy s))
  rw [complete_of_idle (s := raise .invalidLength (destroy s)) hb] at hwait
  exact ⟨_, hwait, hb, rfl, congrArg (fun v => some (1, v)) (status_of_invalidLength rfl rfl hb)⟩

/-- `construct` loads the key and its length, runs `KEYEXP`, accepted or refused, and waits for its end. -/
theorem runTurns_construct {polls polls' : Nat} {key : List Byte} {s t u v : State}
    (hkey : RunTurns (waitTurns polls ++ keyTurns key) s t) (htb : t.busy = false)
    (hexec : execKeyexp (setKeylen (BitVec.ofNat 32 key.length) t) = .next u)
    (hwait : RunTurns (waitTurns polls') u v) :
    RunTurns (constructTurns polls polls' key) s v :=
  have hcommand := runTurns_command (i := .keyexp) (s := setKeylen (BitVec.ofNat 32 key.length) t) htb hexec
  (hkey.append ((runTurns_setKeylen htb _).append hcommand)).append hwait

/-- Settles O54: `KEYLEN` holds the key's length, so `KEYEXP` is accepted or refused by it, and the expansion reads
the key's bytes only. -/
theorem constructBuildsTheKeysInstance : Obligations.ConstructBuildsTheKeysInstance := by
  intro s key polls polls' hlt
  obtain ⟨t, hkey, htb, htkey⟩ := runTurns_wait_key polls key s
  have hlen : (setKeylen (BitVec.ofNat 32 key.length) t).keylen.toNat = key.length := Nat.mod_eq_of_lt hlt
  by_cases hgood : 4 ≤ key.length ∧ key.length ≤ 56
  · let n : KeyLength := ⟨key.length, hgood.1, hgood.2⟩
    obtain ⟨v, hwait, hvb, hvalid, hread, hP, hS⟩ :=
      runTurns_wait_expansion polls' n (setKeylen (BitVec.ofNat 32 key.length) t)
    have hrun := runTurns_construct hkey htb (execKeyexp_of_length (n := n) hlen) hwait
    refine ⟨_, hrun.runSteps_eq, hvb, fun m hm => ⟨hvalid, hread, fun buffer hbuffer => ?_⟩, fun hbad => by omega⟩
    obtain rfl : m = n := by cases m; cases hm; rfl
    have hsame (k : Fin 56) (hk : k.val < key.length) : buffer[k] = t.key[k] :=
      Option.some.inj ((hbuffer k hk).trans (htkey k hk).symm)
    rw [expandKey_congr (keyByte_congr hsame)]
    exact ⟨hP, hS⟩
  · obtain ⟨v, hwait, hvb, hvalid, hread⟩ :=
      runTurns_wait_badLength polls' (s := setKeylen (BitVec.ofNat 32 key.length) t) htb
    have hrun := runTurns_construct hkey htb (execKeyexp_of_badLength (by omega)) hwait
    refine ⟨_, hrun.runSteps_eq, hvb, fun m hm => ?_, fun _ => ⟨hvalid, hread⟩⟩
    have := m.ge_four
    have := m.le_fiftySix
    omega

/-- Settles O56: the 14 key words are the whole buffer, and `KEYEXP56` is always accepted. -/
theorem construct56BuildsTheKeysInstance : Obligations.Construct56BuildsTheKeysInstance := by
  intro s key polls polls'
  obtain ⟨t, hkey, htb, htkey⟩ := runTurns_wait_key polls key.toList s
  have hbuffer : t.key = key := by
    refine Vector.ext fun k hk => Option.some.inj ?_
    simpa [hk] using htkey ⟨k, hk⟩ (by simpa using hk)
  obtain ⟨v, hwait, hvb, hvalid, hread, hP, hS⟩ := runTurns_wait_expansion polls' fullLength t
  have hrun : RunTurns (construct56Turns polls polls' key) s v :=
    (hkey.append (runTurns_command htb rfl)).append hwait
  rw [hbuffer] at hP hS
  exact ⟨_, hrun.runSteps_eq, hvb, hvalid, hread, hP, hS⟩

/-! ### `encrypt_block` and `decrypt_block` -/

/-- The completion of an accepted `ENCRYPT` (R97). -/
theorem complete_accept_enc (s : State) :
    complete (accept .enc s) = finish (deliver (encryptBlock s.P s.S ⟨s.dinL, s.dinR⟩) (accept .enc s)) :=
  (complete_of_busy rfl).trans (congrArg finish (applyPending_enc rfl))

/-- The completion of an accepted `DECRYPT` (R98). -/
theorem complete_accept_dec (s : State) :
    complete (accept .dec s) = finish (deliver (decryptBlock s.P s.S ⟨s.dinL, s.dinR⟩) (accept .dec s)) :=
  (complete_of_busy rfl).trans (congrArg finish (applyPending_dec rfl))

/-- `WAIT` and the writes of the block at an idle engine. -/
theorem runTurns_wait_input (polls : Nat) (b : Block) {s : State} (hb : s.busy = false) :
    ∃ log, RunTurns (waitTurns polls ++ [.hostWrite 4 b.L, .hostWrite 5 b.R]) s
      (setDinR b.R (setDinL b.L (setLog log s))) := by
  obtain ⟨log, hwait⟩ := runTurns_wait polls s
  rw [complete_of_idle hb] at hwait
  have hL := runTurns_setDinL (s := setLog ((1, s.status) :: log) s) hb b.L
  have hR := runTurns_setDinR (s := setDinL b.L (setLog ((1, s.status) :: log) s)) hb b.R
  exact ⟨_, hwait.append (hL.append hR)⟩

/-- The reads of the output block, the left half first. -/
theorem runTurns_output (s : State) :
    RunTurns [.hostRead 6, .hostRead 7] s (logRead 7 s.doutR (logRead 6 s.doutL s)) :=
  (runTurns_hostRead s regOfNumber_six).append (runTurns_hostRead _ regOfNumber_seven)

/-- A transform's sequence at an idle engine with `VALID = 1` returns what the command's completion delivers, whichever
of the two commands it is. -/
theorem transformTurns_returns {i : Instr} {p : Pending} {f : PArray → SBoxes → Block → Block}
    (hexec : ∀ s, s.valid = true → exec i s = .next (accept p s))
    (hcomplete : ∀ s, complete (accept p s) = finish (deliver (f s.P s.S ⟨s.dinL, s.dinR⟩) (accept p s)))
    {s : State} (blk : Vector Byte 8) (polls polls' : Nat) (hb : s.busy = false) (hv : s.valid = true) :
    ∃ t, runSteps (transformTurns i polls polls' blk).length (setInputs (transformTurns i polls polls' blk) s) =
        .next t ∧
      t.hostLog.take 2 = [(7, (f s.P s.S (blockOfBytes blk)).R), (6, (f s.P s.S (blockOfBytes blk)).L)] := by
  obtain ⟨log, hinput⟩ := runTurns_wait_input polls (blockOfBytes blk) hb
  generalize hu : setDinR _ _ = u at hinput
  have hub : u.busy = false := hu ▸ hb
  have huv : u.valid = true := hu ▸ hv
  have hcommand := hinput.append (runTurns_command hub (hexec u huv))
  obtain ⟨log', hwait⟩ := runTurns_wait polls' (accept p u)
  rw [hcomplete] at hwait
  have hrun := (hcommand.append hwait).append (runTurns_output _)
  rw [List.append_assoc (waitTurns polls)] at hrun
  refine ⟨_, hrun.runSteps_eq, ?_⟩
  subst hu
  rfl

/-- Settles O55: the two commands by the same run. -/
theorem transformSequenceReturnsTheBlock : Obligations.TransformSequenceReturnsTheBlock :=
  fun _ blk polls polls' hb hv =>
    ⟨transformTurns_returns (fun _ h => congrArg _ (startTransform_of_valid .enc h)) complete_accept_enc
        blk polls polls' hb hv,
      transformTurns_returns (fun _ h => congrArg _ (startTransform_of_valid .dec h)) complete_accept_dec
        blk polls polls' hb hv⟩

/-! ### `drop` -/

theorem readP_zeros (i : Fin 18) : readP (Vector.replicate 18 0#32) i = 0#32 := Vector.getElem_replicate i.isLt

theorem readS_zeros (b : Fin 4) (j : Fin 256) :
    readS (Vector.replicate 4 (Vector.replicate 256 0#32)) b j = 0#32 := by
  simp [readS]

/-- Settles O57: the `WAIT` leaves the engine idle, so `DROP` takes effect. -/
theorem dropSequenceErasesEverything : Obligations.DropSequenceErasesEverything := by
  intro s polls
  obtain ⟨t, hwait, htb⟩ := runTurns_wait_idle polls s
  have hrun : RunTurns (dropTurns polls) s (raise .none (clearBlocks (clearKey (destroy t)))) :=
    hwait.append (runTurns_command htb rfl)
  have hempty : (setInputs [] (raise .none (clearBlocks (clearKey (destroy t))))).lifecycle = .empty := by
    simp [State.lifecycle, htb]
  exact ⟨_, hrun.runSteps_eq, hempty, rfl, readP_zeros, readS_zeros, fun _ h => Vector.getElem_replicate h,
    rfl, rfl, rfl, rfl, rfl⟩

end Sys2Proof.Machine
end

section
/-! The key stream (40_key_expansion.md R70, R71, R81): its bytes are the key's, read cyclically, and a key expansion
depends on them only. -/

namespace Sys2Proof.Machine

theorem mod_keyLength_lt (n : KeyLength) (k : Nat) : k % n.val < n.val :=
  Nat.mod_lt k (Nat.lt_of_lt_of_le (by decide) n.ge_four)

/-- A byte of the key stream, by its place in the buffer (R46). -/
theorem keyByte_eq_getElem (key : KeyBuffer) (n : KeyLength) {k : Nat} {j : Fin 56} (h : j.val = k % n.val) :
    keyByte key n k = key[j] := by
  simp only [keyByte, ← h]
  rfl

/-- The read position after `i` words is `4i mod n`, so the words read from there on are words `i`, `i + 1`, ... of the
key stream (R70). -/
theorem keyWordsFrom_eq (key : KeyBuffer) (n : KeyLength) (k i : Nat) :
    keyWordsFrom key n k (4 * i % n.val) = (List.range' i k).map (keyWord key n) := by
  induction k generalizing i with
  | zero => rfl
  | succ k ih =>
    rw [keyWordsFrom, readKeyWord_eq, List.range'_succ, List.map_cons]
    exact congrArg _ (ih (i + 1))

/-- Settles O25: the cyclic bytes by their places, and the form with a read position from position 0. -/
theorem keyWordFormsAgree : Obligations.KeyWordFormsAgree := by
  intro key n
  constructor
  · intro i k0 k1 k2 k3 h0 h1 h2 h3
    rw [keyWord, keyByte_eq_getElem key n h0, keyByte_eq_getElem key n h1, keyByte_eq_getElem key n h2,
      keyByte_eq_getElem key n h3]
  · rw [List.range_eq_range', ← keyWordsFrom_eq, Nat.mul_zero, Nat.zero_mod]

/-- Settles O29: `n` divides `m * n`, so the longer key's stream is the shorter one's. -/
theorem repeatedKeyGivesTheSameTables : Obligations.RepeatedKeyGivesTheSameTables := by
  intro key key' n n' m hn hkey
  refine expandKey_congr fun k => ?_
  have hlt := mod_keyLength_lt n' k
  have hmod : k % n'.val % n.val = k % n.val := Nat.mod_mod_of_dvd k ⟨m, hn.trans (Nat.mul_comm m n.val)⟩
  have hbyte := hkey ⟨k % n'.val, Nat.lt_of_lt_of_le hlt n'.le_fiftySix⟩ hlt
  simp only [hmod] at hbyte
  exact hbyte

/-- The key stream of an all-zero key is zero. -/
theorem keyByte_of_zeros {key : KeyBuffer} {n : KeyLength} (h : ∀ k : Fin 56, k.val < n.val → key[k] = 0#8) (k : Nat) :
    keyByte key n k = 0#8 := by
  have hlt := mod_keyLength_lt n k
  exact h ⟨k % n.val, Nat.lt_of_lt_of_le hlt n.le_fiftySix⟩ hlt

/-- Settles O30: both key streams are zero. -/
theorem allZeroKeysGiveTheSameTables : Obligations.AllZeroKeysGiveTheSameTables :=
  fun _ _ _ _ h h' => expandKey_congr fun k => (keyByte_of_zeros h k).trans (keyByte_of_zeros h' k).symm

end Sys2Proof.Machine
end

section
/-! Key expansion as folds (40_key_expansion.md R72 to R76): the key mixing word by word, and steps 4 and 5 as one chain
of 521 generating encryptions. -/

namespace Sys2Proof.Machine

/-! ### Folds over an index range -/

/-- A fold over the indexes below `n`, each with its bound. -/
theorem foldl_range_eq_finRange {α : Type} (f : α → Nat → α) (n : Nat) (x : α) :
    (List.range n).foldl f x = (List.finRange n).foldl (fun x i => f x i.val) x := by
  induction n with
  | zero => rfl
  | succ n ih =>
    rw [List.range_succ, List.finRange_succ_last, List.foldl_append, List.foldl_append, List.foldl_map, ih]
    rfl

theorem foldl_range_succ {α : Type} (f : α → Nat → α) (n : Nat) (x : α) :
    (List.range (n + 1)).foldl f x = f ((List.range n).foldl f x) n := by
  rw [List.range_succ, List.foldl_append]
  rfl

theorem foldl_range_add {α : Type} (f : α → Nat → α) (m n : Nat) (x : α) :
    (List.range (m + n)).foldl f x = (List.range n).foldl (fun x j => f x (m + j)) ((List.range m).foldl f x) := by
  rw [List.range_add, List.foldl_append, List.foldl_map]

/-- A fold over `m` rows of `n` indexes is the fold over the rows of the folds of each. -/
theorem foldl_range_mul {α : Type} (f : α → Nat → α) (m n : Nat) (x : α) :
    (List.range (m * n)).foldl f x =
      (List.range m).foldl (fun x i => (List.range n).foldl (fun x j => f x (i * n + j)) x) x := by
  induction m with
  | zero => rw [Nat.zero_mul]; rfl
  | succ m ih => rw [Nat.succ_mul, foldl_range_add, foldl_range_succ, ih]

/-! ### The key mixing -/

/-- The xor of word `i` of the key stream into `P[i]`: one pass of step 2 (R74). -/
def mixWord (key : KeyBuffer) (n : KeyLength) (P : PArray) (i : Fin 18) : PArray :=
  writeP P i (readP P i ^^^ keyWord key n i.val)

theorem mixKey_eq_foldl (key : KeyBuffer) (n : KeyLength) (P : PArray) :
    mixKey key n P = (List.finRange 18).foldl (mixWord key n) P := rfl

theorem readP_mixWord (key : KeyBuffer) (n : KeyLength) (P : PArray) (i j : Fin 18) :
    readP (mixWord key n P i) j = if i = j then readP P j ^^^ keyWord key n j.val else readP P j := by
  rw [mixWord, readP_writeP]
  split
  · rename_i h; rw [h]
  · rfl

/-- Passes over different indexes xor each of their words once and no other. -/
theorem readP_foldl_mixWord (key : KeyBuffer) (n : KeyLength) {is : List (Fin 18)} (his : is.Nodup) (P : PArray)
    (j : Fin 18) :
    readP (is.foldl (mixWord key n) P) j = if j ∈ is then readP P j ^^^ keyWord key n j.val else readP P j := by
  induction is generalizing P with
  | nil => rfl
  | cons i is ih =>
    obtain ⟨hi, his⟩ := List.nodup_cons.mp his
    rw [List.foldl_cons, ih his, readP_mixWord]
    by_cases h : i = j
    · subst h; simp [hi]
    · simp [h, Ne.symm h]

theorem readP_mixKey (key : KeyBuffer) (n : KeyLength) (P : PArray) (i : Fin 18) :
    readP (mixKey key n P) i = readP P i ^^^ keyWord key n i.val := by
  rw [mixKey_eq_foldl, readP_foldl_mixWord key n (List.nodup_finRange 18), if_pos (List.mem_finRange i)]

/-- Settles O27: each index of `P` is passed once. -/
theorem keyMixingXorsEveryWord : Obligations.KeyMixingXorsEveryWord :=
  fun key n => ⟨readP_mixKey key n, readP_mixKey key n pInit, rfl, rfl⟩

/-! ### The chain of generating encryptions -/

/-- Encryptions 0 to 8 write to `P` (R75). -/
theorem writeBack_ofNat_P (i : Fin 9) : writeBack (Fin.ofNat 1042 i.val) = writeBackP i := by
  have hval : (Fin.ofNat 1042 i.val).val = i.val := Nat.mod_eq_of_lt (by omega)
  funext b c
  simp only [writeBack, hval, i.isLt, dif_pos]

/-- From encryption 9 on, each box takes 128 (R76). -/
theorem writeBack_ofNat_S (box : Fin 4) (j : Fin 128) :
    writeBack (Fin.ofNat 1042 (9 + (box.val * 128 + j.val))) = writeBackS box j := by
  have hval : (Fin.ofNat 1042 (9 + (box.val * 128 + j.val))).val = 9 + (box.val * 128 + j.val) :=
    Nat.mod_eq_of_lt (by omega)
  have hbox : Fin.ofNat 4 ((9 + (box.val * 128 + j.val) - 9) / 128) = box :=
    Fin.ext (by simp only [Fin.val_ofNat]; omega)
  have hj : Fin.ofNat 128 ((9 + (box.val * 128 + j.val) - 9) % 128) = j :=
    Fin.ext (by simp only [Fin.val_ofNat]; omega)
  funext b c
  rw [writeBack, dif_neg (by omega), hval, hbox, hj]

/-- The first `k` of the operations that `SEQ.i` counts, in order (R31, R79). -/
def Schedule.foldIndex (op : Fin 1042 → Schedule → Schedule) (k : Nat) (x : Schedule) : Schedule :=
  (List.range k).foldl (fun x i => op (Fin.ofNat 1042 i) x) x

theorem foldIndex_succ (op : Fin 1042 → Schedule → Schedule) (k : Nat) (x : Schedule) :
    x.foldIndex op (k + 1) = op (Fin.ofNat 1042 k) (x.foldIndex op k) :=
  foldl_range_succ _ k x

/-- Generating encryption number `g` with its write-back (R79). -/
def generateAt (g : Fin 1042) (x : Schedule) : Schedule := generate (writeBack g) x

/-- Nine encryptions regenerate `P`, and 4 times 128 the boxes. -/
theorem foldIndex_generateAt (x : Schedule) : x.foldIndex generateAt 521 = regenerateS (regenerateP x) := by
  have hsplit := foldl_range_add (fun x g => generateAt (Fin.ofNat 1042 g) x) 9 (4 * 128) x
  rw [foldl_range_mul, foldl_range_eq_finRange _ 9, foldl_range_eq_finRange _ 4] at hsplit
  simp only [foldl_range_eq_finRange _ 128, generateAt, writeBack_ofNat_P, writeBack_ofNat_S] at hsplit
  exact hsplit

/-- Settles O28: steps 4 and 5 are the chain of all 521 encryptions. -/
theorem keyExpansionIsOneChain : Obligations.KeyExpansionIsOneChain :=
  fun key n => congrArg Schedule.tables (foldIndex_generateAt (initialSchedule key n)).symm

end Sys2Proof.Machine
end

section
/-! The commands `KEYEXP` and `KEYEXP56` (40_key_expansion.md R77, R78): the acceptance they share and its
completion. -/

namespace Sys2Proof.Machine

/-- What the acceptance of a key expansion writes and leaves (R62, R77). -/
theorem startExpansion_fields (n : KeyLength) (s : State) :
    (startExpansion n s).valid = false ∧ (startExpansion n s).err = .none ∧ (startExpansion n s).pending = .kx n ∧
      (startExpansion n s).busy = true ∧ SameTables s (startExpansion n s) ∧ SameKey s (startExpansion n s) ∧
      SameBlocks s (startExpansion n s) ∧ SameHost s (startExpansion n s) := by
  simp [startExpansion, SameTables, SameKey, SameBlocks, SameHost]

/-- The engine's turn after the acceptance installs the key's tables and consumes the key (R77, R83). -/
theorem step_engine_startExpansion (n : KeyLength) (s : State) (rest : List Turn) :
    ∃ u, step (setInputs (.engine :: rest) (startExpansion n s)) = .next u ∧
      u.P = (expandKey s.key n).P ∧ u.S = (expandKey s.key n).S ∧ u.valid = true ∧
      (∀ (k : Nat) (h : k < 56), u.key[k] = 0#8) ∧ u.keylen = 0#32 ∧ u.pending = .none ∧ u.busy = false ∧
      u.err = .none ∧ SameBlocks s u ∧ u.inputs = rest ∧ u.hostLog = s.hostLog := by
  refine ⟨_, step_engine rest _, ?_⟩
  rw [complete_startExpansion]
  generalize expandKey s.key n = c
  exact ⟨rfl, rfl, rfl, fun _ h => Vector.getElem_replicate h, rfl, rfl, rfl, rfl, ⟨rfl, rfl, rfl, rfl⟩, rfl, rfl⟩

/-- Settles O14: refused or accepted by the length test; the rest is the shared acceptance and its completion. -/
theorem keyexpEffect : Obligations.KeyexpEffect := by
  refine ⟨decode_encode .keyexp, fun s _ => ⟨execKeyexp_of_badLength, fun n hn => ?_⟩⟩
  obtain ⟨hvalid, herr, hpending, hbusy, htables, hkey, hblocks, hhost⟩ := startExpansion_fields n s
  exact ⟨_, execKeyexp_of_length hn, hvalid, herr, hpending, hbusy, htables, hkey, hblocks, hhost,
    step_engine_startExpansion n s⟩

/-- Settles O15: the acceptance over 56 bytes, without a test. -/
theorem keyexp56Effect : Obligations.Keyexp56Effect := by
  refine ⟨decode_encode .keyexp56, fun s _ => ⟨?_, fun hlen => execKeyexp_of_length (n := fullLength) hlen⟩⟩
  obtain ⟨hvalid, herr, hpending, hbusy, htables, hkey, hblocks, hhost⟩ := startExpansion_fields fullLength s
  exact ⟨_, fullLength, rfl, rfl, hvalid, herr, hpending, hbusy, htables, hkey, hblocks, hhost,
    step_engine_startExpansion fullLength s⟩

end Sys2Proof.Machine
end

section
/-! What a micro-step writes (40_key_expansion.md R79, 42_block_transform.md R102): the place of the sequencer, the
tables and the working block, said once for each phase and place; and that no host sees it. -/

namespace Sys2Proof.Machine

/-! ### The engine with its sequencer placed -/

/-- The tables and the working block, what the sequencer works on (R32, R79). -/
def State.schedule (s : State) : Schedule := ⟨s.tables, s.workBlock⟩

/-- The engine with the sequencer at this place and this in the tables and the working block; the rest as in `s`. -/
def State.atSequencer (s : State) (phase : Phase) (i : Fin 1042) (t : Fin 18) (x : Schedule) : State :=
  setWork x.run (setTables x.tables { s with seqPhase := phase, seqI := i, seqT := t })

theorem atSequencer_self (s : State) : s.atSequencer s.seqPhase s.seqI s.seqT s.schedule = s := rfl

/-- No register shows the tables, the sequencer or the working block (R108). -/
theorem readReg_atSequencer (s : State) (phase : Phase) (i : Fin 1042) (t : Fin 18) (x : Schedule) (r : Reg) :
    readReg (s.atSequencer phase i t x) r = readReg s r := by
  cases r <;> rfl

/-! ### The work of one micro-step -/

/-- `KX_INIT`: one seed word (R73). -/
def Schedule.seedWord (i : Fin 1042) (x : Schedule) : Schedule := ⟨writeSeed i x.tables, x.run⟩

/-- `KX_XOR`: one key word (R74). -/
def Schedule.mixWord (key : KeyBuffer) (n : KeyLength) (i : Fin 18) (x : Schedule) : Schedule :=
  ⟨⟨Machine.mixWord key n x.tables.P i, x.tables.S⟩, x.run⟩

/-- `KX_GEN` and `BLK`: one step of the transform of the working block (R96). -/
def Schedule.round (dir : Direction) (t : Fin 18) (x : Schedule) : Schedule :=
  ⟨x.tables, feistelStep x.tables.P x.tables.S dir t x.run⟩

/-- The end of a generating encryption: the working block goes to the tables (R79). -/
def Schedule.writeBack (g : Fin 1042) (x : Schedule) : Schedule := ⟨Machine.writeBack g x.run x.tables, x.run⟩

theorem microInit_next {s : State} (h : s.seqI.val ≠ 1041) :
    microInit s = s.atSequencer s.seqPhase (nextI s.seqI) s.seqT (s.schedule.seedWord s.seqI) :=
  if_neg h

theorem microInit_last {s : State} (h : s.seqI.val = 1041) :
    microInit s = s.atSequencer .kxXor 0 s.seqT (s.schedule.seedWord s.seqI) :=
  if_pos h

theorem microXor_next {s : State} (h : s.seqI.val ≠ 17) :
    microXor s = s.atSequencer s.seqPhase (nextI s.seqI) s.seqT
      (s.schedule.mixWord s.key s.pending.keyLength (Fin.ofNat 18 s.seqI.val)) :=
  if_neg h

/-- With the last key word the working block becomes the zero block of step 3 (R75). -/
theorem microXor_last {s : State} (h : s.seqI.val = 17) :
    microXor s = s.atSequencer .kxGen 0 0
      ⟨(s.schedule.mixWord s.key s.pending.keyLength (Fin.ofNat 18 s.seqI.val)).tables, ⟨0#32, 0#32⟩⟩ :=
  if_pos h

theorem microGen_round {s : State} (h : s.seqT.val ≠ 17) :
    microGen s = s.atSequencer s.seqPhase s.seqI (nextT s.seqT) (s.schedule.round .enc s.seqT) :=
  if_neg h

theorem microGen_writeBack {s : State} (h : s.seqT.val = 17) (hi : s.seqI.val ≠ 520) :
    microGen s = s.atSequencer s.seqPhase (nextI s.seqI) 0 ((s.schedule.round .enc s.seqT).writeBack s.seqI) :=
  (if_pos h).trans (if_neg hi)

/-- The last write-back completes the tables, and they are installed: the command ends (R77, R79). -/
theorem microGen_end {s : State} (h : s.seqT.val = 17) (hi : s.seqI.val = 520) :
    microGen s = finish (clearKey (installInstance ((s.schedule.round .enc s.seqT).writeBack s.seqI).tables s)) :=
  (if_pos h).trans (if_pos hi)

theorem microBlk_round {s : State} (h : s.seqT.val ≠ 17) :
    microBlk s = s.atSequencer s.seqPhase s.seqI (nextT s.seqT) (s.schedule.round s.pending.direction s.seqT) :=
  if_neg h

/-- The last step delivers the result and ends the command (R102). -/
theorem microBlk_end {s : State} (h : s.seqT.val = 17) :
    microBlk s = finish (deliver (s.schedule.round s.pending.direction s.seqT).run s) :=
  if_pos h

/-! ### What a host sees of it -/

/-- A micro-step after which the engine is busy moves the sequencer, the tables and the working block only. -/
theorem exists_microStep_eq_atSequencer {s : State} (hb : (microStep s).busy = true) :
    ∃ phase i t x, microStep s = s.atSequencer phase i t x := by
  cases hphase : s.seqPhase with
  | idle =>
    rw [microStep_of_idle hphase]
    exact ⟨_, _, _, _, (atSequencer_self s).symm⟩
  | kxInit =>
    rw [microStep_of_kxInit hphase]
    by_cases hi : s.seqI.val = 1041
    · exact ⟨_, _, _, _, microInit_last hi⟩
    · exact ⟨_, _, _, _, microInit_next hi⟩
  | kxXor =>
    rw [microStep_of_kxXor hphase]
    by_cases hi : s.seqI.val = 17
    · exact ⟨_, _, _, _, microXor_last hi⟩
    · exact ⟨_, _, _, _, microXor_next hi⟩
  | kxGen =>
    rw [microStep_of_kxGen hphase] at hb ⊢
    by_cases ht : s.seqT.val = 17
    · by_cases hi : s.seqI.val = 520
      · simp [microGen_end ht hi] at hb
      · exact ⟨_, _, _, _, microGen_writeBack ht hi⟩
    · exact ⟨_, _, _, _, microGen_round ht⟩
  | blk =>
    rw [microStep_of_blk hphase] at hb ⊢
    by_cases ht : s.seqT.val = 17
    · simp [microBlk_end ht] at hb
    · exact ⟨_, _, _, _, microBlk_round ht⟩

/-- Settles O53: neither a register nor an operand is among what such a micro-step moves. -/
theorem microStepsAreInvisible : Obligations.MicroStepsAreInvisible := by
  intro s _ _ hb
  obtain ⟨phase, i, t, x, hstep⟩ := exists_microStep_eq_atSequencer hb
  rw [hstep]
  exact ⟨readReg_atSequencer s phase i t x, ⟨rfl, rfl⟩, ⟨rfl, rfl, rfl, rfl⟩, rfl, rfl, rfl⟩

end Sys2Proof.Machine
end

section
/-! The micro-steps of a key expansion (40_key_expansion.md R79) phase by phase: 1042 seed words, 18 key words and 521
generating encryptions of 18 steps end where `Complete` ends. -/

namespace Sys2Proof.Machine

/-! ### Loops of the sequencer -/

theorem nextI_ofNat (k : Nat) : nextI (Fin.ofNat 1042 k) = Fin.ofNat 1042 (k + 1) :=
  Fin.ext (Nat.mod_add_mod k 1042 1)

theorem nextT_ofNat (k : Nat) : nextT (Fin.ofNat 18 k) = Fin.ofNat 18 (k + 1) :=
  Fin.ext (Nat.mod_add_mod k 18 1)

theorem val_ofNat_of_lt {m k : Nat} [NeZero m] (h : k < m) : (Fin.ofNat m k).val = k := Nat.mod_eq_of_lt h

/-- `n` stages of `c` micro-steps, each leading to the next, and one more that leaves the loop. -/
theorem microSteps_loop {c n : Nat} (stage : Nat → State) {last : State}
    (hstage : ∀ k < n, microSteps c (stage k) = stage (k + 1)) (hlast : microSteps c (stage n) = last) :
    microSteps ((n + 1) * c) (stage 0) = last := by
  have hstages : ∀ k ≤ n, microSteps (k * c) (stage 0) = stage k := by
    intro k
    induction k with
    | zero => intro _; rw [Nat.zero_mul]; rfl
    | succ k ih => intro hk; rw [Nat.succ_mul, microSteps_add, ih (by omega), hstage k hk]
  rw [Nat.succ_mul, microSteps_add, hstages n (Nat.le_refl n), hlast]

/-- The loop over `SEQ.i`: `n` stages of `c` micro-steps that each do `op` and count up, the last of which leaves the
loop. -/
theorem microSteps_indexLoop {s : State} {phase : Phase} {t : Fin 18} {c n : Nat} (hpos : 0 < n) (hn : n ≤ 1042)
    (op : Fin 1042 → Schedule → Schedule) (last : Schedule → State)
    (hnext : ∀ i x, i.val + 1 ≠ n →
      microSteps c (s.atSequencer phase i t x) = s.atSequencer phase (nextI i) t (op i x))
    (hlast : ∀ i x, i.val + 1 = n → microSteps c (s.atSequencer phase i t x) = last (op i x)) (x : Schedule) :
    microSteps (n * c) (s.atSequencer phase 0 t x) = last (x.foldIndex op n) := by
  obtain ⟨m, rfl⟩ := Nat.exists_eq_add_one.mpr hpos
  refine microSteps_loop (fun k => s.atSequencer phase (Fin.ofNat 1042 k) t (x.foldIndex op k)) (fun k hk => ?_) ?_
  · have hval : (Fin.ofNat 1042 k).val = k := val_ofNat_of_lt (by omega)
    rw [hnext _ _ (by omega), nextI_ofNat, foldIndex_succ]
  · have hval : (Fin.ofNat 1042 m).val = m := val_ofNat_of_lt (by omega)
    rw [hlast _ _ (by omega), foldIndex_succ]

/-- The loop over `SEQ.i` where each micro-step is a stage. -/
theorem microSteps_wordLoop {s : State} {phase : Phase} {t : Fin 18} {n : Nat} (hpos : 0 < n) (hn : n ≤ 1042)
    (op : Fin 1042 → Schedule → Schedule) (last : Schedule → State)
    (hnext : ∀ i x, i.val + 1 ≠ n → microStep (s.atSequencer phase i t x) = s.atSequencer phase (nextI i) t (op i x))
    (hlast : ∀ i x, i.val + 1 = n → microStep (s.atSequencer phase i t x) = last (op i x)) (x : Schedule) :
    microSteps n (s.atSequencer phase 0 t x) = last (x.foldIndex op n) := by
  have hloop := microSteps_indexLoop (c := 1) hpos hn op last hnext hlast x
  rwa [Nat.mul_one] at hloop

/-- The first `k` steps of a transform of the working block (R96). -/
def Schedule.rounds (dir : Direction) (k : Nat) (x : Schedule) : Schedule :=
  (List.range k).foldl (fun x t => x.round dir (Fin.ofNat 18 t)) x

/-- The loop over `SEQ.t`: the 18 steps of a transform, the last of which leaves the loop. -/
theorem microSteps_roundLoop {s : State} {phase : Phase} {i : Fin 1042} {dir : Direction} {last : Schedule → State}
    (hnext : ∀ t x, t.val ≠ 17 →
      microStep (s.atSequencer phase i t x) = s.atSequencer phase i (nextT t) (x.round dir t))
    (hlast : ∀ t x, t.val = 17 → microStep (s.atSequencer phase i t x) = last (x.round dir t)) (x : Schedule) :
    microSteps 18 (s.atSequencer phase i 0 x) = last (x.rounds dir 18) := by
  refine microSteps_loop (c := 1) (n := 17) (fun k => s.atSequencer phase i (Fin.ofNat 18 k) (x.rounds dir k))
    (fun k hk => ?_) ?_
  · have hval : (Fin.ofNat 18 k).val = k := val_ofNat_of_lt (by omega)
    rw [microSteps_one, hnext _ _ (by omega), nextT_ofNat, Schedule.rounds, Schedule.rounds, foldl_range_succ]
  · exact hlast _ _ rfl

/-! ### The 18 steps are the block transform -/

/-- The 18 steps in pairs (R96). -/
theorem transformBySteps_eq (P : PArray) (S : SBoxes) (dir : Direction) (b : Block) :
    transformBySteps P S dir b =
      finalSwap P (stepIndex dir 16) (stepIndex dir 17)
        ((List.finRange 8).foldl (fun b i =>
          iteration P S (stepIndex dir ⟨2 * i.val, by omega⟩) (stepIndex dir ⟨2 * i.val + 1, by omega⟩) b) b) := by
  have hpair (i : Fin 8) (b : Block) :=
    feistelStep_pair P S dir b ⟨2 * i.val, by omega⟩ ⟨2 * i.val + 1, by omega⟩ (Nat.mul_mod_right 2 i.val) rfl
      (show 2 * i.val + 1 < 16 by omega)
  simp only [← hpair]
  rfl

theorem transformBySteps_enc (P : PArray) (S : SBoxes) (b : Block) :
    transformBySteps P S .enc b = encryptBlock P S b :=
  transformBySteps_eq P S .enc b

theorem rounds_all (dir : Direction) (x : Schedule) :
    x.rounds dir 18 = ⟨x.tables, transformBySteps x.tables.P x.tables.S dir x.run⟩ := by
  rw [Schedule.rounds, foldl_range_eq_finRange]
  simp only [Fin.ofNat_val_eq_self]
  exact List.foldl_hom (fun b => (⟨x.tables, b⟩ : Schedule)) fun _ _ => rfl

/-- A generating encryption is its 18 steps and the write-back (R79). -/
theorem writeBack_rounds (g : Fin 1042) (x : Schedule) :
    (x.rounds .enc 18).writeBack g = generateAt g x := by
  rw [rounds_all, transformBySteps_enc]
  rfl

/-! ### `KX_INIT`: the seed tables -/

/-- Of the words below `k + 1`, word `k` is the new one. -/
theorem ite_lt_succ {α : Type} (k j : Nat) (a b : α) :
    (if j < k + 1 then a else b) = if k = j then a else if j < k then a else b := by
  by_cases h : k = j
  · rw [if_pos h, if_pos (by omega)]
  · have hiff : j < k + 1 ↔ j < k := by omega
    simp only [h, hiff, if_false]

theorem readP_foldIndex_seedWord {k : Nat} (hk : k ≤ 1042) (x : Schedule) (j : Fin 18) :
    readP (x.foldIndex .seedWord k).tables.P j = if j.val < k then readP pInit j else readP x.tables.P j := by
  induction k with
  | zero => rfl
  | succ k ih =>
    rw [foldIndex_succ, Schedule.seedWord, readP_writeSeed, val_ofNat_of_lt (by omega), ih (by omega), ite_lt_succ]

theorem readS_foldIndex_seedWord {k : Nat} (hk : k ≤ 1042) (x : Schedule) (b : Fin 4) (j : Fin 256) :
    readS (x.foldIndex .seedWord k).tables.S b j =
      if 18 + 256 * b.val + j.val < k then readS sInit b j else readS x.tables.S b j := by
  induction k with
  | zero => rfl
  | succ k ih =>
    rw [foldIndex_succ, Schedule.seedWord, readS_writeSeed, val_ofNat_of_lt (by omega), ih (by omega), ite_lt_succ]

/-- Two Cipher States with the same words are the same. -/
theorem cipherState_ext_read {c d : CipherState} (hP : ∀ j, readP c.P j = readP d.P j)
    (hS : ∀ b j, readS c.S b j = readS d.S b j) : c = d := by
  cases c
  cases d
  rw [CipherState.mk.injEq]
  exact ⟨PArray.ext_read hP, SBoxes.ext_read hS⟩

/-- All 1042 seed words are the seed tables, whatever the tables held before (R73). -/
theorem foldIndex_seedWord_tables (x : Schedule) : (x.foldIndex .seedWord 1042).tables = seedTables :=
  cipherState_ext_read (fun j => (readP_foldIndex_seedWord (Nat.le_refl 1042) x j).trans (if_pos (by omega)))
    fun b j => (readS_foldIndex_seedWord (Nat.le_refl 1042) x b j).trans (if_pos (by omega))

theorem microSteps_kxInit (s : State) (t : Fin 18) (x : Schedule) :
    microSteps 1042 (s.atSequencer .kxInit 0 t x) = s.atSequencer .kxXor 0 t (x.foldIndex .seedWord 1042) := by
  refine microSteps_wordLoop (by decide) (Nat.le_refl 1042) Schedule.seedWord (s.atSequencer .kxXor 0 t)
    (fun i x hi => ?_) (fun i x hi => ?_) x
  · have hi : i.val ≠ 1041 := by omega
    exact (microStep_of_kxInit rfl).trans (microInit_next (s := s.atSequencer .kxInit i t x) hi)
  · have hi : i.val = 1041 := by omega
    exact (microStep_of_kxInit rfl).trans (microInit_last (s := s.atSequencer .kxInit i t x) hi)

/-! ### `KX_XOR`: the key mixed into `P` -/

/-- Key word number `SEQ.i` (R74, R79). -/
def Schedule.mixWordAt (key : KeyBuffer) (n : KeyLength) (i : Fin 1042) (x : Schedule) : Schedule :=
  x.mixWord key n (Fin.ofNat 18 i.val)

theorem foldl_mixWord (key : KeyBuffer) (n : KeyLength) (is : List (Fin 18)) (x : Schedule) :
    is.foldl (fun x i => x.mixWord key n i) x =
      ⟨⟨is.foldl (Machine.mixWord key n) x.tables.P, x.tables.S⟩, x.run⟩ := by
  induction is generalizing x with
  | nil => rfl
  | cons i is ih => exact ih (x.mixWord key n i)

/-- All 18 key words are step 2 of key expansion (R74). -/
theorem foldIndex_mixWordAt_tables (key : KeyBuffer) (n : KeyLength) (x : Schedule) :
    (x.foldIndex (.mixWordAt key n) 18).tables = ⟨mixKey key n x.tables.P, x.tables.S⟩ := by
  have hindex (i : Fin 18) : Fin.ofNat 18 (Fin.ofNat 1042 i.val).val = i := by
    rw [val_ofNat_of_lt (by omega), Fin.ofNat_val_eq_self]
  rw [Schedule.foldIndex, foldl_range_eq_finRange, mixKey_eq_foldl]
  simp only [Schedule.mixWordAt, hindex, foldl_mixWord]

theorem microSteps_kxXor (s : State) (t : Fin 18) (x : Schedule) :
    microSteps 18 (s.atSequencer .kxXor 0 t x) =
      s.atSequencer .kxGen 0 0 ⟨(x.foldIndex (.mixWordAt s.key s.pending.keyLength) 18).tables, ⟨0#32, 0#32⟩⟩ := by
  refine microSteps_wordLoop (by decide) (by decide) (Schedule.mixWordAt s.key s.pending.keyLength)
    (fun x => s.atSequencer .kxGen 0 0 ⟨x.tables, ⟨0#32, 0#32⟩⟩) (fun i x hi => ?_) (fun i x hi => ?_) x
  · have hi : i.val ≠ 17 := by omega
    exact (microStep_of_kxXor rfl).trans (microXor_next (s := s.atSequencer .kxXor i t x) hi)
  · have hi : i.val = 17 := by omega
    exact (microStep_of_kxXor rfl).trans (microXor_last (s := s.atSequencer .kxXor i t x) hi)

/-! ### `KX_GEN`: the chain of encryptions -/

/-- The 18 micro-steps of one generating encryption, the last of which leads to `last`. -/
theorem microSteps_encryption {s : State} {g : Fin 1042} (last : Schedule → State)
    (hlast : ∀ t x, t.val = 17 →
      microGen (s.atSequencer .kxGen g t x) = last ((x.round .enc t).writeBack g)) (x : Schedule) :
    microSteps 18 (s.atSequencer .kxGen g 0 x) = last (generateAt g x) := by
  rw [← writeBack_rounds]
  exact microSteps_roundLoop (last := fun x => last (x.writeBack g))
    (fun t x ht => (microStep_of_kxGen rfl).trans (microGen_round (s := s.atSequencer .kxGen g t x) ht))
    (fun t x ht => (microStep_of_kxGen rfl).trans (hlast t x ht)) x

theorem microSteps_kxGen (s : State) (x : Schedule) :
    microSteps (521 * 18) (s.atSequencer .kxGen 0 0 x) =
      finish (clearKey (installInstance (x.foldIndex generateAt 521).tables s)) := by
  refine microSteps_indexLoop (by decide) (by decide) generateAt
    (fun x => finish (clearKey (installInstance x.tables s))) (fun g x hg => ?_) (fun g x hg => ?_) x
  · exact microSteps_encryption (s.atSequencer .kxGen (nextI g) 0)
      (fun t x ht => microGen_writeBack (s := s.atSequencer .kxGen g t x) ht (show g.val ≠ 520 by omega)) x
  · exact microSteps_encryption (fun x => finish (clearKey (installInstance x.tables s)))
      (fun t x ht => microGen_end (s := s.atSequencer .kxGen g t x) ht (show g.val = 520 by omega)) x

/-! ### The whole expansion -/

/-- From its start the sequencer of a key expansion ends with the tables of `ExpandKey` installed, whatever the tables
and the working block held (R72, R73, R79). -/
theorem microSteps_expansion {s : State} {n : KeyLength} (hp : s.pending = .kx n) (t : Fin 18) (x : Schedule) :
    microSteps (1042 + 18 + 521 * 18) (s.atSequencer .kxInit 0 t x) =
      finish (clearKey (installInstance (expandKey s.key n) s)) := by
  have hlen : s.pending.keyLength = n := congrArg Pending.keyLength hp
  rw [microSteps_add, microSteps_add, microSteps_kxInit, microSteps_kxXor, foldIndex_mixWordAt_tables,
    foldIndex_seedWord_tables, hlen, microSteps_kxGen, foldIndex_generateAt]
  rfl

/-- Settles O52: at its start the sequencer is at `KX_INIT` with index 0. -/
theorem microStepsRefineKeyExpansion : Obligations.MicroStepsRefineKeyExpansion := by
  intro s n hb hp hstart
  have hplace : s.atSequencer .kxInit 0 s.seqT s.schedule = s := by
    have h := hstart hb
    rwa [hp] at h
  rw [complete_of_busy hb, applyPending_kx hp, ← microSteps_expansion hp s.seqT s.schedule, hplace]

end Sys2Proof.Machine
end

section
/-! The round function `F` as the formula of 41_round_function.md R84: a word is given as `be32` of its four bytes, so
that each lookup of `F` reads its box at one of them. -/

namespace Sys2Proof.Machine

/-- A word whose value is made of four byte values, most significant first, is their packing (R48). -/
theorem eq_be32_of_toNat {x : Word} {b0 b1 b2 b3 : Fin 256}
    (hx : x.toNat = 0x1000000 * b0.val + 0x10000 * b1.val + 0x100 * b2.val + b3.val) :
    x = be32 (.ofFin b0) (.ofFin b1) (.ofFin b2) (.ofFin b3) := by
  apply BitVec.eq_of_toNat_eq
  rw [hx, be32_toNat]
  simp only [BitVec.toNat_ofFin]
  omega

/-- Each box is read at its own byte, and the four words are combined by add, xor, add (R84, R85). -/
theorem F_be32 (S : SBoxes) (b0 b1 b2 b3 : Byte) :
    F S (be32 b0 b1 b2 b3) =
      ((readS S 0 b0.toFin + readS S 1 b1.toFin) ^^^ readS S 2 b2.toFin) + readS S 3 b3.toFin := by
  simp only [F, lookup, byteOf_zero_be32, byteOf_one_be32, byteOf_two_be32, byteOf_three_be32]

/-- Settles O24: the word is the packing of its four bytes, and `+` and `^^^` of words are addition modulo `2 ^ 32` and
xor of their values. -/
theorem roundFunctionIsTheFormula : Obligations.RoundFunctionIsTheFormula := by
  intro S x b0 b1 b2 b3 hx
  rw [eq_be32_of_toNat hx, F_be32, BitVec.toNat_add, BitVec.toNat_xor, BitVec.toNat_add]
  rfl

end Sys2Proof.Machine
end

section
/-! The block transforms as functions (42_block_transform.md R91 to R96): the step form in both directions, decryption as
encryption with `P` reversed, and the round trip by one cancellation law of the iterations. -/

namespace Sys2Proof.Machine

/-! ### The 18 steps in direction `DEC` -/

theorem stepIndex_dec_even (m : Fin 8) :
    stepIndex .dec ⟨2 * m.val, by omega⟩ = ⟨2 * (8 - m.val) + 1, by omega⟩ :=
  Fin.ext (by simp only [stepIndex, Fin.val_rev]; omega)

theorem stepIndex_dec_odd (m : Fin 8) :
    stepIndex .dec ⟨2 * m.val + 1, by omega⟩ = ⟨2 * (8 - m.val), by omega⟩ :=
  Fin.ext (by simp only [stepIndex, Fin.val_rev]; omega)

theorem transformBySteps_dec (P : PArray) (S : SBoxes) (b : Block) :
    transformBySteps P S .dec b = decryptBlock P S b := by
  rw [transformBySteps_eq]
  simp only [stepIndex_dec_even, stepIndex_dec_odd]
  rfl

/-- Settles O32: the steps taken in pairs are the iterations, in each direction. -/
theorem stepFormIsTheBlockTransform : Obligations.StepFormIsTheBlockTransform :=
  fun P S b => ⟨transformBySteps_enc P S b, transformBySteps_dec P S b⟩

/-! ### `P` reversed -/

/-- A step of a decryption reads `P` where the same step of an encryption reads `P` reversed. -/
theorem feistelStep_dec_of_rev {P rev : PArray} (hrev : ∀ k : Fin 18, readP rev k = readP P k.rev) (S : SBoxes)
    (t : Fin 18) (b : Block) : feistelStep P S .dec t b = feistelStep rev S .enc t b := by
  have hmix (t : Fin 18) (h : Word) : mixP P (stepIndex .dec t) h = mixP rev (stepIndex .enc t) h :=
    congrArg (h ^^^ ·) (hrev t).symm
  simp only [feistelStep, hmix]

/-- Settles O33: the two transforms agree in each of the 18 steps. -/
theorem decryptionIsEncryptionReversed : Obligations.DecryptionIsEncryptionReversed := by
  intro P rev S b hrev
  rw [← transformBySteps_dec, ← transformBySteps_enc]
  simp only [transformBySteps, feistelStep_dec_of_rev hrev]

/-! ### The round trip -/

/-- Mixing twice with one word changes nothing (41_round_function.md R86, R87). -/
@[simp] theorem mixP_mixP (P : PArray) (i : Fin 18) (h : Word) : mixP P i (mixP P i h) = h := by
  rw [mixP, mixP, BitVec.xor_assoc, BitVec.xor_self, BitVec.xor_zero]

theorem mixP_xor (P : PArray) (i : Fin 18) (h x : Word) : mixP P i (h ^^^ x) = mixP P i h ^^^ x := by
  rw [mixP, mixP, BitVec.xor_assoc, BitVec.xor_comm x, BitVec.xor_assoc]

/-- The last mixing and swap undo themselves with the index pair reversed. -/
theorem finalSwap_finalSwap (P : PArray) (k k' : Fin 18) (b : Block) : finalSwap P k' k (finalSwap P k k' b) = b := by
  simp only [finalSwap, mixP_mixP]

/-- After the last mixing and swap, an iteration with the index pair reversed undoes an iteration and leaves the mixing
and swap at the undone iteration's own pair. Of `F` only that it is a function is used (R95). -/
theorem iteration_finalSwap_iteration (P : PArray) (S : SBoxes) (k k' j j' : Fin 18) (b : Block) :
    iteration P S k' k (finalSwap P k k' (iteration P S j j' b)) = finalSwap P j j' b := by
  have hcancel (x y : Word) : x ^^^ y ^^^ y = x := by rw [BitVec.xor_assoc, BitVec.xor_self, BitVec.xor_zero]
  simp only [iteration, finalSwap, mixP_xor, mixP_mixP, hcancel]

/-- Decryption undoes encryption, iteration by iteration from the last (R95). -/
theorem decryptBlock_encryptBlock (P : PArray) (S : SBoxes) (b : Block) :
    decryptBlock P S (encryptBlock P S b) = b := by
  rw [decryptBlock_eq, encryptBlock_eq]
  simp only [iteration_finalSwap_iteration, finalSwap_finalSwap]

/-- Encryption undoes decryption, by the same law. -/
theorem encryptBlock_decryptBlock (P : PArray) (S : SBoxes) (b : Block) :
    encryptBlock P S (decryptBlock P S b) = b := by
  rw [decryptBlock_eq, encryptBlock_eq]
  simp only [iteration_finalSwap_iteration, finalSwap_finalSwap]

/-- Settles O34: two functions that undo each other are bijections. -/
theorem blockTransformsAreInverse : Obligations.BlockTransformsAreInverse := by
  intro P S
  have hleft : Function.LeftInverse (decryptBlock P S) (encryptBlock P S) := decryptBlock_encryptBlock P S
  have hright : Function.RightInverse (decryptBlock P S) (encryptBlock P S) := encryptBlock_decryptBlock P S
  exact ⟨hleft, hright, fun _ _ h => hleft.injective h, hright.surjective⟩

end Sys2Proof.Machine
end

section
/-! The commands `ENCRYPT` and `DECRYPT` (42_block_transform.md R97, R98): the acceptance they share, its completion, and
the round trip at the registers. -/

namespace Sys2Proof.Machine

/-! ### Acceptance, refusal and completion -/

theorem execEncrypt_of_valid {s : State} (hv : s.valid = true) : exec .encrypt s = .next (accept .enc s) :=
  congrArg _ (startTransform_of_valid .enc hv)

theorem execDecrypt_of_valid {s : State} (hv : s.valid = true) : exec .decrypt s = .next (accept .dec s) :=
  congrArg _ (startTransform_of_valid .dec hv)

theorem execEncrypt_of_invalid {s : State} (hv : s.valid = false) : exec .encrypt s = .next (raise .noCipher s) :=
  congrArg _ (startTransform_of_invalid .enc hv)

theorem execDecrypt_of_invalid {s : State} (hv : s.valid = false) : exec .decrypt s = .next (raise .noCipher s) :=
  congrArg _ (startTransform_of_invalid .dec hv)

/-- An accepted transform with result `b`: what the acceptance leaves, and the engine's turn after it. -/
theorem accept_transform {p : Pending} {s : State} {b : Block} (hv : s.valid = true)
    (hcomplete : complete (accept p s) = finish (deliver b (accept p s))) :
    (accept p s).err = .none ∧ (accept p s).pending = p ∧ (accept p s).busy = true ∧ (accept p s).valid = true ∧
      SameTables s (accept p s) ∧ SameKey s (accept p s) ∧ SameBlocks s (accept p s) ∧ SameHost s (accept p s) ∧
      ∀ rest, ∃ u, step (setInputs (.engine :: rest) (accept p s)) = .next u ∧
        (⟨u.doutL, u.doutR⟩ : Block) = b ∧ u.pending = .none ∧ u.busy = false ∧ u.err = .none ∧ u.valid = true ∧
        SameTables s u ∧ SameKey s u ∧ u.dinL = s.dinL ∧ u.dinR = s.dinR ∧ u.inputs = rest ∧
        u.hostLog = s.hostLog := by
  refine ⟨accept_err .., accept_pending .., accept_busy .., (accept_valid ..).trans hv, ⟨accept_P .., accept_S ..⟩,
    ⟨accept_key .., accept_keylen ..⟩, ⟨accept_dinL .., accept_dinR .., accept_doutL .., accept_doutR ..⟩,
    ⟨accept_inputs .., accept_hostLog ..⟩, fun rest => ⟨_, step_engine rest _, ?_⟩⟩
  rw [hcomplete]
  simp [SameTables, SameKey, hv]

/-- Settles O16: refused or accepted by `VALID`; the rest is the shared acceptance and its completion. -/
theorem encryptEffect : Obligations.EncryptEffect :=
  ⟨decode_encode .encrypt, fun s _ => ⟨execEncrypt_of_invalid, fun hv =>
    ⟨_, execEncrypt_of_valid hv, accept_transform hv (complete_accept_enc s)⟩⟩⟩

/-- Settles O17: as `ENCRYPT`, with the completion of `DECRYPT`. -/
theorem decryptEffect : Obligations.DecryptEffect :=
  ⟨decode_encode .decrypt, fun s _ => ⟨execDecrypt_of_invalid, fun hv =>
    ⟨_, execDecrypt_of_valid hv, accept_transform hv (complete_accept_dec s)⟩⟩⟩

/-- Settles O22: an accepted command is an `accept` of what becomes pending, which places the sequencer. -/
theorem acceptanceStartsTheSequencer : Obligations.AcceptanceStartsTheSequencer := by
  refine fun s => ⟨fun n hn => ⟨_, execKeyexp_of_length hn, rfl, rfl, rfl, rfl, rfl⟩,
    ⟨_, rfl, rfl, rfl, rfl, rfl, rfl⟩, fun hv i hi => ?_⟩
  obtain rfl | rfl := hi
  · exact ⟨_, execEncrypt_of_valid hv, rfl, rfl, rfl, rfl, rfl⟩
  · exact ⟨_, execDecrypt_of_valid hv, rfl, rfl, rfl, rfl, rfl⟩

/-! ### The round trip -/

theorem RunTurns.runSteps_of_length {us : List Turn} {s t : State} {k : Nat} (h : RunTurns us s t)
    (hk : us.length = k) : runSteps k (setInputs us s) = .next (setInputs [] t) :=
  hk ▸ h.runSteps_eq

/-- The command's write, any number of reads of `STATUS` and the completion: the output registers hold the transform of
the input registers, whichever of the two transforms it is. -/
theorem runTurns_transform {i : Instr} {p : Pending} {s : State} {b : Block} (hb : s.busy = false)
    (hexec : exec i s = .next (accept p s))
    (hcomplete : complete (accept p s) = finish (deliver b (accept p s))) (polls : Nat) :
    ∃ t, RunTurns ([commandTurn i] ++ List.replicate polls (.hostRead 1) ++ [.engine]) s t ∧
      (⟨t.doutL, t.doutR⟩ : Block) = b ∧ t.valid = s.valid ∧ t.busy = false ∧ SameTables s t := by
  obtain ⟨log, hpolls⟩ := runTurns_polls polls (accept p s)
  have hengine := runTurns_engine (setLog log (accept p s))
  rw [complete_setLog, hcomplete] at hengine
  refine ⟨_, ((runTurns_command hb hexec).append hpolls).append hengine, ?_⟩
  simp [SameTables]

/-- Settles O35: the second run decrypts, with the same tables, the block the first run left in the output registers. -/
theorem roundTripAtTheRegisters : Obligations.RoundTripAtTheRegisters := by
  intro s polls polls' hb hv
  obtain ⟨t, henc, htout, htv, htb, htP, htS⟩ :=
    runTurns_transform hb (execEncrypt_of_valid hv) (complete_accept_enc s) polls
  have hload := (runTurns_setDinL htb t.doutL).append (runTurns_setDinR (s := setDinL t.doutL t) htb t.doutR)
  obtain ⟨u, hdec, huout, huv, hub, huP, huS⟩ :=
    runTurns_transform (s := setDinR t.doutR (setDinL t.doutL t)) htb (execDecrypt_of_valid (htv.trans hv))
      (complete_accept_dec _) polls'
  have hround : (⟨u.doutL, u.doutR⟩ : Block) = ⟨s.dinL, s.dinR⟩ :=
    calc (⟨u.doutL, u.doutR⟩ : Block)
        = decryptBlock t.P t.S ⟨t.doutL, t.doutR⟩ := huout
      _ = decryptBlock s.P s.S (encryptBlock s.P s.S ⟨s.dinL, s.dinR⟩) := by rw [htP, htS, htout]
      _ = ⟨s.dinL, s.dinR⟩ := decryptBlock_encryptBlock ..
  obtain ⟨hL, hR⟩ := Block.mk.inj hround
  exact ⟨setInputs [] t, henc.runSteps_of_length (by simp), setInputs [] u,
    (hload.append hdec).runSteps_of_length (by simp), hL, hR, huv.trans (htv.trans hv), hub,
    huP.trans htP, huS.trans htS⟩

end Sys2Proof.Machine
end

section
/-! The micro-steps of a block transform (42_block_transform.md R102): the 18 steps on the working block end where
`Complete` ends. -/

namespace Sys2Proof.Machine

theorem rounds_succ (dir : Direction) (k : Nat) (x : Schedule) :
    x.rounds dir (k + 1) = (x.rounds dir k).round dir (Fin.ofNat 18 k) :=
  foldl_range_succ _ k x

/-- Before the last micro-step the sequencer has counted the steps done and the working block has them. -/
theorem microSteps_blk (s : State) (i : Fin 1042) (x : Schedule) {k : Nat} (hk : k < 18) :
    microSteps k (s.atSequencer .blk i 0 x) =
      s.atSequencer .blk i (Fin.ofNat 18 k) (x.rounds s.pending.direction k) := by
  induction k with
  | zero => rfl
  | succ k ih =>
    have hval : (Fin.ofNat 18 k).val = k := val_ofNat_of_lt (by omega)
    rw [microSteps_add, ih (by omega), microSteps_one, microStep_of_blk rfl, rounds_succ, ← nextT_ofNat]
    exact microBlk_round (s := s.atSequencer .blk i (Fin.ofNat 18 k) (x.rounds s.pending.direction k))
      (show (Fin.ofNat 18 k).val ≠ 17 by omega)

/-- All 18 micro-steps deliver the transform of the working block and end the command. -/
theorem microSteps_transform (s : State) (i : Fin 1042) (b : Block) :
    microSteps 18 (s.atSequencer .blk i 0 ⟨s.tables, b⟩) =
      finish (deliver (transformBySteps s.P s.S s.pending.direction b) s) := by
  have hloop := microSteps_roundLoop (s := s) (phase := .blk) (i := i) (dir := s.pending.direction)
    (last := fun x => finish (deliver x.run (setTables x.tables s)))
    (fun t x ht => (microStep_of_blk rfl).trans (microBlk_round (s := s.atSequencer .blk i t x) ht))
    (fun t x ht => (microStep_of_blk rfl).trans (microBlk_end (s := s.atSequencer .blk i t x) ht)) ⟨s.tables, b⟩
  rwa [rounds_all] at hloop

/-- The pending transform in its step form (R96, R107). -/
theorem applyPending_transform {s : State} (hp : s.pending = .enc ∨ s.pending = .dec) :
    applyPending s = deliver (transformBySteps s.P s.S s.pending.direction s.inputBlock) s := by
  obtain hp | hp := hp
  · rw [applyPending_enc hp, hp, Pending.direction, transformBySteps_enc]
  · rw [applyPending_dec hp, hp, Pending.direction, transformBySteps_dec]

/-- At the start of a transform the sequencer is at `BLK`, step 0, with the input block in the working block (R102). -/
theorem AtStart.atSequencer_blk {s : State} (h : AtStart s) (hb : s.busy = true)
    (hp : s.pending = .enc ∨ s.pending = .dec) : s.atSequencer .blk s.seqI 0 ⟨s.tables, s.inputBlock⟩ = s := by
  have hstart := h hb
  obtain hp | hp := hp <;> rwa [hp] at hstart

/-- Settles O51: from its start the sequencer does the 18 steps of the pending transform, and none before the last
touches `BUSY`. -/
theorem microStepsRefineTheTransform : Obligations.MicroStepsRefineTheTransform := by
  intro s hb hp hstart
  have hplace := hstart.atSequencer_blk hb hp
  refine ⟨?_, fun k hk => ?_⟩
  · rw [complete_of_busy hb, applyPending_transform hp, ← microSteps_transform s s.seqI s.inputBlock, hplace]
  · rw [← hplace, microSteps_blk s s.seqI _ hk]
    exact hb

end Sys2Proof.Machine
end

section
/-! The register port by register number (43_lifecycle_and_host_access.md R108, R109): the register each number selects,
what a read of it returns, and what a write to it does. -/

namespace Sys2Proof.Machine

/-! ### The register of a number -/

theorem exists_regOfNumber {n : Nat} (hn : n ≤ 31) : ∃ r, regOfNumber n = some r :=
  Option.ne_none_iff_exists'.mp fun h => absurd (regOfNumber_eq_none.mp h) (by omega)

theorem regOfNumber_keyWindow {n : Nat} (hn : 8 ≤ n ∧ n ≤ 21) : regOfNumber n = some (.keyw ⟨n - 8, by omega⟩) := by
  have hsum : 8 + (n - 8) = n := by omega
  simpa only [hsum] using regOfNumber_keyw ⟨n - 8, by omega⟩

theorem regOfNumber_reserved {n : Nat} (hn : n ≤ 31) (h : n = 3 ∨ 22 ≤ n) : regOfNumber n = some .reserved := by
  have hall : ∀ m : Fin 32, m.val = 3 ∨ 22 ≤ m.val → regOfNumber m.val = some .reserved := by decide
  exact hall ⟨n, by omega⟩ h

/-! ### Reads -/

theorem status_of_flags {s : State} {e : ErrCode} {v b : Bool} (he : s.err = e) (hv : s.valid = v) (hb : s.busy = b) :
    s.status = (e.code.setWidth 32 <<< 8) + ((BitVec.ofBool v).setWidth 32 <<< 1) + (BitVec.ofBool b).setWidth 32 := by
  subst he hv hb
  rfl

/-- The value of `STATUS`, from its fields (R22). -/
theorem status_toNat (s : State) :
    s.status.toNat = s.err.code.toNat * 256 + s.valid.toNat * 2 + s.busy.toNat := by
  unfold State.status
  cases s.err <;> cases s.valid <;> cases s.busy <;> rfl

/-- Settles O4: the word read is the register's, and the number tells which register that is. -/
theorem hostReadReturnsTheRegister : Obligations.HostReadReturnsTheRegister := by
  intro s rest n hn
  obtain ⟨r, hr⟩ := exists_regOfNumber hn
  have hread (r' : Reg) (h : regOfNumber n = some r') : readReg s r = readReg s r' := by
    rw [Option.some.inj (hr.symm.trans h)]
  exact ⟨readReg s r, step_hostRead s hr rest,
    fun h => hread .cmd (h ▸ regOfNumber_zero),
    fun h => hread .status (h ▸ regOfNumber_one) ▸ status_toNat s,
    fun h => hread .keylen (h ▸ regOfNumber_two),
    fun h => hread .dinL (h ▸ regOfNumber_four),
    fun h => hread .dinR (h ▸ regOfNumber_five),
    fun h => hread .doutL (h ▸ regOfNumber_six),
    fun h => hread .doutR (h ▸ regOfNumber_seven),
    fun h => hread (.keyw ⟨n - 8, by omega⟩) (regOfNumber_keyWindow h),
    fun h => hread .reserved (regOfNumber_reserved hn h)⟩

/-- After `DROP` at an idle engine every register reads 0 (R105). -/
theorem readReg_dropped {s : State} (hb : s.busy = false) (r : Reg) :
    readReg (raise .none (clearBlocks (clearKey (destroy s)))) r = 0#32 := by
  cases r with
  | status => exact status_of_flags (s := raise .none (clearBlocks (clearKey (destroy s)))) rfl rfl hb
  | _ => rfl

/-- Settles O18: `DROP` is its three clearing operations, and no register shows more than they clear. -/
theorem dropEffect : Obligations.DropEffect := by
  refine ⟨decode_encode .drop, fun s hb => ⟨_, rfl, rfl, fun n rest hn => ?_⟩⟩
  obtain ⟨r, hr⟩ := exists_regOfNumber hn
  have hstep := step_hostRead (raise .none (clearBlocks (clearKey (destroy s)))) hr rest
  rwa [readReg_dropped hb] at hstep

/-! ### Writes -/

/-- A write to any register is discarded while `BUSY = 1` (R109). -/
theorem step_hostWrite_of_busy {n : Nat} {s : State} (hn : n ≤ 31) (hb : s.busy = true) (v : Word)
    (rest : List Turn) : step (setInputs (.hostWrite n v :: rest) s) = .next (setInputs rest s) :=
  (step_of_cons (turn := .hostWrite n v) (rest := rest) rfl).trans (hostWrite_of_busy (s := setInputs rest s) hn hb)

theorem commandWrite_of_illegal {v : Word} {why : IllegalWord} (s : State) (h : decode v = .illegal why) :
    commandWrite v s = .next (raise .illegalCommand s) := by
  simp only [commandWrite, h]

/-- A `CMD` write of an illegal word at an idle engine is `IllegalCommand` (R116). -/
theorem step_illegalWrite {s : State} {v : Word} {why : IllegalWord} (hb : s.busy = false)
    (h : decode v = .illegal why) (rest : List Turn) :
    step (setInputs (.hostWrite 0 v :: rest) s) = .next (raise .illegalCommand (setInputs rest s)) :=
  (step_hostWrite regOfNumber_zero hb rest).trans (commandWrite_of_illegal _ h)

/-- The registers that ignore a write (R109). -/
theorem writeReg_of_ignored {n : Nat} (hn : n ≤ 31) (h : n = 1 ∨ n = 3 ∨ n = 6 ∨ n = 7 ∨ 22 ≤ n) :
    ∃ r, regOfNumber n = some r ∧ ∀ v s, writeReg r v s = .next s := by
  obtain rfl | h | rfl | rfl | h := h
  · exact ⟨_, regOfNumber_one, fun _ _ => rfl⟩
  · exact ⟨_, regOfNumber_reserved hn (.inl h), fun _ _ => rfl⟩
  · exact ⟨_, regOfNumber_six, fun _ _ => rfl⟩
  · exact ⟨_, regOfNumber_seven, fun _ _ => rfl⟩
  · exact ⟨_, regOfNumber_reserved hn (.inr h), fun _ _ => rfl⟩

/-- Settles O5: discarded by a busy engine; at an idle one the write of the register the number selects. -/
theorem hostWriteEffect : Obligations.HostWriteEffect := by
  refine fun s rest n v hn => ⟨fun hb => step_hostWrite_of_busy hn hb v rest, fun hb =>
    ⟨?command, ?illegal, ?keylen, ?dinL, ?dinR, fun hkey => ?keyw, fun hignored => ?ignored⟩⟩
  case command => rintro rfl i hd; exact step_commandWrite hb hd rest
  case illegal => rintro rfl why hd; exact step_illegalWrite hb hd rest
  case keylen => rintro rfl; exact step_hostWrite regOfNumber_two hb rest
  case dinL => rintro rfl; exact step_hostWrite regOfNumber_four hb rest
  case dinR => rintro rfl; exact step_hostWrite regOfNumber_five hb rest
  case keyw =>
    exact ⟨_, step_hostWrite (regOfNumber_keyWindow hkey) hb rest, getElem_writeKeyWord ⟨n - 8, by omega⟩ v s⟩
  case ignored =>
    obtain ⟨r, hr, hwrite⟩ := writeReg_of_ignored hn hignored
    exact (step_hostWrite hr hb rest).trans (hwrite v _)

end Sys2Proof.Machine
end

section
/-! The four lifecycle states (10_state.md R36, 43_lifecycle_and_host_access.md R106, R110): the flags each stands for,
the values `STATUS` takes, and the transitions. -/

namespace Sys2Proof.Machine

/-! ### The lifecycle and the flags -/

theorem lifecycle_eq_empty {s : State} : s.lifecycle = .empty ↔ s.busy = false ∧ s.valid = false := by
  unfold State.lifecycle
  cases s.busy <;> cases s.valid <;> decide

theorem lifecycle_eq_expanding {s : State} : s.lifecycle = .expanding ↔ s.busy = true ∧ s.valid = false := by
  unfold State.lifecycle
  cases s.busy <;> cases s.valid <;> decide

theorem lifecycle_eq_ready {s : State} : s.lifecycle = .ready ↔ s.busy = false ∧ s.valid = true := by
  unfold State.lifecycle
  cases s.busy <;> cases s.valid <;> decide

theorem lifecycle_eq_transforming {s : State} : s.lifecycle = .transforming ↔ s.busy = true ∧ s.valid = true := by
  unfold State.lifecycle
  cases s.busy <;> cases s.valid <;> decide

@[simp] theorem setInputs_lifecycle (us : List Turn) (s : State) : (setInputs us s).lifecycle = s.lifecycle := rfl

theorem busy_of_lifecycle {s : State} (h : s.lifecycle = .expanding ∨ s.lifecycle = .transforming) : s.busy = true :=
  h.elim (fun h => (lifecycle_eq_expanding.mp h).1) (fun h => (lifecycle_eq_transforming.mp h).1)

theorem idle_of_lifecycle {s : State} (h : s.lifecycle = .empty ∨ s.lifecycle = .ready) : s.busy = false :=
  h.elim (fun h => (lifecycle_eq_empty.mp h).1) (fun h => (lifecycle_eq_ready.mp h).1)

/-! ### The values of `STATUS` -/

/-- A busy coherent engine has a key expansion pending with `VALID = 0` or a transform with `VALID = 1` (R36). -/
theorem Coherent.pending_of_busy {s : State} (h : Coherent s) (hb : s.busy = true) :
    (∃ n, s.pending = .kx n) ∧ s.valid = false ∨ (s.pending = .enc ∨ s.pending = .dec) ∧ s.valid = true := by
  obtain hp | ⟨n, hp⟩ | hp := pending_cases s
  · exact absurd hp (h.busy_iff.mp hb)
  · exact .inl ⟨⟨n, hp⟩, h.expanding n hp⟩
  · exact .inr ⟨hp, h.transforming hp⟩

/-- Settles O40: Empty allows all four outcomes, Ready two of them, and a busy engine only the acceptance. -/
theorem statusReadsOneOfEightValues : Obligations.StatusReadsOneOfEightValues := by
  intro s h
  cases hb : s.busy with
  | false =>
    cases hv : s.valid with
    | false =>
      have hl := lifecycle_eq_empty.mpr ⟨hb, hv⟩
      cases he : s.err <;> simp [status_of_flags he hv hb, ErrCode.code, hl]
    | true =>
      have hl := lifecycle_eq_ready.mpr ⟨hb, hv⟩
      obtain he | he := h.valid_err hv <;> simp [status_of_flags he hv hb, ErrCode.code, hl, he]
  | true =>
    have he := h.busy_err hb
    obtain ⟨hp, hv⟩ | ⟨hp, hv⟩ := h.pending_of_busy hb
    · have hl := lifecycle_eq_expanding.mpr ⟨hb, hv⟩
      simp [status_of_flags he hv hb, ErrCode.code, hl, he, hp]
    · have hl := lifecycle_eq_transforming.mpr ⟨hb, hv⟩
      simp [status_of_flags he hv hb, ErrCode.code, hl, he, hp]

/-! ### The transitions -/

/-- Both kinds of completion end in Ready (R106). -/
theorem Coherent.lifecycle_complete {s : State} (h : Coherent s) (hb : s.busy = true) :
    (complete s).lifecycle = .ready := by
  refine lifecycle_eq_ready.mpr ⟨complete_busy s, ?_⟩
  rw [complete_of_busy hb]
  obtain ⟨⟨n, hp⟩, -⟩ | ⟨hp | hp, hv⟩ := h.pending_of_busy hb
  · rw [applyPending_kx hp]; rfl
  · rw [applyPending_enc hp]; exact hv
  · rw [applyPending_dec hp]; exact hv

/-- A write that is discarded or is not to `CMD` touches no flag. -/
theorem WriteEnd.same_lifecycle {n : Nat} {v : Word} {s t : State} (ht : WriteEnd n v s t)
    (h : s.busy = true ∨ n ≠ 0) : t.lifecycle = s.lifecycle ∧ t.err = s.err := by
  cases ht with
  | command hb hn | illegal hb hn => simp [hb, hn] at h
  | discarded | keylen | dinL | dinR | keyw | ignored => exact ⟨rfl, rfl⟩

theorem exists_decode_illegal_of_toNat {v : Word} (h : v.toNat < 1 ∨ 5 < v.toNat) : ∃ why, decode v = .illegal why :=
  exists_decode_illegal_iff.mpr fun hcommand => by
    have := exists_decode_command_iff.mp hcommand
    omega

/-! ### The rows of R106 for a `CMD` write at an idle engine -/

section CommandRows

variable {v : Word} {s t : State} (h : commandWrite v s = .next t)

include h

theorem exec_of_commandWrite {i : Instr} (hv : v.toNat = (encode i).toNat) : exec i s = .next t :=
  (commandWrite_of_command s (decode_eq_command_iff_toNat.mpr hv)).symm.trans h

theorem lifecycle_of_keyexp (hv : v.toNat = 1) (hlen : 4 ≤ s.keylen.toNat ∧ s.keylen.toNat ≤ 56) :
    t.lifecycle = .expanding ∧ t.err = .none := by
  have hstart : exec .keyexp s = .next (startExpansion ⟨s.keylen.toNat, hlen.1, hlen.2⟩ s) := execKeyexp_of_length rfl
  cases (exec_of_commandWrite (i := .keyexp) h hv).symm.trans hstart
  exact ⟨rfl, rfl⟩

theorem lifecycle_of_keyexp_refused (hb : s.busy = false) (hv : v.toNat = 1)
    (hlen : s.keylen.toNat < 4 ∨ 56 < s.keylen.toNat) : t.lifecycle = .empty ∧ t.err = .invalidLength := by
  cases (exec_of_commandWrite (i := .keyexp) h hv).symm.trans (execKeyexp_of_badLength hlen)
  exact ⟨lifecycle_eq_empty.mpr ⟨hb, rfl⟩, rfl⟩

theorem lifecycle_of_keyexp56 (hv : v.toNat = 2) : t.lifecycle = .expanding ∧ t.err = .none := by
  cases exec_of_commandWrite (i := .keyexp56) h hv
  exact ⟨rfl, rfl⟩

theorem startTransform_of_commandWrite (hv : v.toNat = 3 ∨ v.toNat = 4) : ∃ p, t = startTransform p s := by
  obtain hv | hv := hv
  · cases exec_of_commandWrite (i := .encrypt) h hv
    exact ⟨.enc, rfl⟩
  · cases exec_of_commandWrite (i := .decrypt) h hv
    exact ⟨.dec, rfl⟩

theorem lifecycle_of_transform_refused (hv : v.toNat = 3 ∨ v.toNat = 4) (hl : s.lifecycle = .empty) :
    t.lifecycle = .empty ∧ t.err = .noCipher := by
  obtain ⟨p, rfl⟩ := startTransform_of_commandWrite h hv
  rw [startTransform_of_invalid p (lifecycle_eq_empty.mp hl).2]
  exact ⟨hl, rfl⟩

theorem lifecycle_of_transform (hv : v.toNat = 3 ∨ v.toNat = 4) (hl : s.lifecycle = .ready) :
    t.lifecycle = .transforming ∧ t.err = .none := by
  obtain ⟨p, rfl⟩ := startTransform_of_commandWrite h hv
  have hvalid := (lifecycle_eq_ready.mp hl).2
  rw [startTransform_of_valid p hvalid]
  exact ⟨lifecycle_eq_transforming.mpr ⟨accept_busy s p, (accept_valid s p).trans hvalid⟩, accept_err s p⟩

theorem lifecycle_of_drop (hb : s.busy = false) (hv : v.toNat = 5) : t.lifecycle = .empty ∧ t.err = .none := by
  cases exec_of_commandWrite (i := .drop) h hv
  exact ⟨lifecycle_eq_empty.mpr ⟨hb, rfl⟩, rfl⟩

theorem lifecycle_of_illegal (hv : v.toNat < 1 ∨ 5 < v.toNat) :
    t.lifecycle = s.lifecycle ∧ t.err = .illegalCommand := by
  obtain ⟨why, hd⟩ := exists_decode_illegal_of_toNat hv
  cases (commandWrite_of_illegal s hd).symm.trans h
  exact ⟨rfl, rfl⟩

end CommandRows

/-- Settles O41: a busy engine leaves its state by `Complete` and reset only, an idle one by the rows of `CMD`. -/
theorem lifecycleTransitions : Obligations.LifecycleTransitions := by
  refine fun s t turn rest hs h => ⟨?reset, ?engine, ?read, ?write, ?cmd⟩
  case reset =>
    rintro rfl
    cases h
    exact ⟨rfl, rfl⟩
  case engine =>
    rintro rfl
    cases (step_engine rest s).symm.trans h
    refine ⟨complete_err s, ?_⟩
    rw [setInputs_lifecycle]
    cases hl : s.lifecycle with
    | empty => rw [complete_of_idle (idle_of_lifecycle (.inl hl))]; exact hl
    | expanding => exact hs.lifecycle_complete (busy_of_lifecycle (.inl hl))
    | ready => rw [complete_of_idle (idle_of_lifecycle (.inr hl))]; exact hl
    | transforming => exact hs.lifecycle_complete (busy_of_lifecycle (.inr hl))
  case read =>
    rintro n rfl
    obtain ⟨-, v, rfl⟩ := hostRead_cases (s := setInputs rest s) h
    exact ⟨rfl, rfl⟩
  case write =>
    rintro n v rfl hkept
    have hbusy_or : s.busy = true ∨ n ≠ 0 := (or_assoc.mpr hkept).imp_left busy_of_lifecycle
    exact (hostWrite_cases (s := setInputs rest s) h).same_lifecycle hbusy_or
  case cmd =>
    rintro v rfl hl
    have hb := idle_of_lifecycle hl
    have hwrite : commandWrite v (setInputs rest s) = .next t :=
      (step_hostWrite regOfNumber_zero hb rest).symm.trans h
    exact ⟨fun hv hlen => lifecycle_of_keyexp hwrite hv hlen,
      fun hv hlen => lifecycle_of_keyexp_refused hwrite hb hv hlen, lifecycle_of_keyexp56 hwrite,
      fun hv hl => lifecycle_of_transform_refused hwrite hv hl, fun hv hl => lifecycle_of_transform hwrite hv hl,
      lifecycle_of_drop hwrite hb, lifecycle_of_illegal (s := setInputs rest s) hwrite⟩

end Sys2Proof.Machine
end

section
/-! The final state and the moment of `Complete` (43_lifecycle_and_host_access.md R107, R109): while a command is pending
the host's turns change nothing but what the host has read. -/

namespace Sys2Proof.Machine

/-- A turn of the host at a busy engine notes at most one word (R108, R109). -/
theorem runTurns_hostTurn_of_busy {turn : Turn} (hturn : turn.isHost = true) {s : State} (hb : s.busy = true) :
    ∃ log, RunTurns [turn] s (setLog (log ++ s.hostLog) s) ∧ log.length ≤ 1 := by
  cases turn with
  | hostRead n =>
    obtain ⟨r, hr⟩ := exists_regOfNumber (of_decide_eq_true hturn)
    exact ⟨[(n, readReg s r)], runTurns_hostRead s hr, Nat.le_refl 1⟩
  | hostWrite n v =>
    exact ⟨[], runTurns_of_step (step_hostWrite_of_busy (of_decide_eq_true hturn) hb v), Nat.zero_le 1⟩
  | partialAccess | engine | reset => cases hturn

theorem runTurns_hostTurns_of_busy {us : List Turn} (hus : ∀ turn ∈ us, turn.isHost = true) {s : State}
    (hb : s.busy = true) : ∃ log, RunTurns us s (setLog (log ++ s.hostLog) s) ∧ log.length ≤ us.length := by
  induction us generalizing s with
  | nil => exact ⟨[], .nil s, Nat.le_refl 0⟩
  | cons turn rest ih =>
    obtain ⟨hturn, hrest⟩ := List.forall_mem_cons.mp hus
    obtain ⟨first, hfirst, hone⟩ := runTurns_hostTurn_of_busy hturn hb
    obtain ⟨log, hlog, hlen⟩ := ih hrest (s := setLog (first ++ s.hostLog) s) hb
    refine ⟨log ++ first, ?_, ?_⟩
    · rw [List.append_assoc]
      exact hfirst.append hlog
    · rw [List.length_append, List.length_cons]
      omega

/-- Settles O49: `Complete` does not see the host's log, which is all that the turns before it have changed. -/
theorem completionTimeDoesNotMatter : Obligations.CompletionTimeDoesNotMatter := by
  intro s us hb hus
  obtain ⟨log, hrun, hlen⟩ := runTurns_hostTurns_of_busy hus hb
  have hengine := runTurns_engine (setLog (log ++ s.hostLog) s)
  rw [complete_setLog] at hengine
  exact ⟨log, (hrun.append hengine).runSteps_of_length List.length_append, hlen⟩

end Sys2Proof.Machine
end

section
/-! The engine's exceptions (60_exceptions.md): each refusal with what it leaves alone (R114, R115, R116), the order in
which a `CMD` write is examined (R119), and that no decoded turn stops the run (R117). -/

namespace Sys2Proof.Machine

/-! ### The refusals -/

/-- Settles O12: a word outside 1 to 5 decodes to no command, and its write is `raise IllegalCommand`. -/
theorem illegalCommandSetsErrOnly : Obligations.IllegalCommandSetsErrOnly := by
  intro s rest v hb hv
  obtain ⟨why, hd⟩ := exists_decode_illegal_of_toNat hv
  exact step_illegalWrite hb hd rest

/-- Settles O19: both transforms fail the test of `VALID`. -/
theorem noCipherRefusal : Obligations.NoCipherRefusal :=
  fun _ _ hv => ⟨execEncrypt_of_invalid hv, execDecrypt_of_invalid hv⟩

/-- Settles O20: the refusal is `Destroy` followed by `raise InvalidLength`. -/
theorem invalidLengthRefusal : Obligations.InvalidLengthRefusal :=
  fun _ hb hlen => ⟨_, execKeyexp_of_badLength hlen, rfl, rfl, readP_zeros, readS_zeros, hb, rfl, ⟨rfl, rfl⟩,
    ⟨rfl, rfl, rfl, rfl⟩, ⟨rfl, rfl⟩⟩

/-! ### The order of the tests at a `CMD` write -/

/-- The one test of a transform is that of `VALID` (R115). -/
theorem startTransform_err (p : Pending) (s : State) :
    (startTransform p s).err = if s.valid then .none else .noCipher := by
  cases hv : s.valid with
  | true => rw [startTransform_of_valid p hv]; exact accept_err s p
  | false => rw [startTransform_of_invalid p hv]; rfl

/-- The one test of `KEYEXP` is that of the length (R114). -/
theorem err_of_keyexpWrite {v : Word} {s t : State} (h : commandWrite v s = .next t) (hb : s.busy = false)
    (hv : v.toNat = 1) :
    t.err = if 4 ≤ s.keylen.toNat ∧ s.keylen.toNat ≤ 56 then .none else .invalidLength := by
  split
  case isTrue hlen => exact (lifecycle_of_keyexp h hv hlen).2
  case isFalse hlen => exact (lifecycle_of_keyexp_refused h hb hv (by omega)).2

/-- Settles O13: a busy engine discards the write; an idle one decodes the word and then makes the command's one
test. -/
theorem commandWriteIsExaminedInOrder : Obligations.CommandWriteIsExaminedInOrder := by
  intro s rest v
  cases hb : s.busy with
  | true => exact ⟨_, step_hostWrite_of_busy (Nat.zero_le 31) hb v rest, by simp⟩
  | false =>
    obtain ⟨t, ht⟩ := takeTurn_next complete (turn := .hostWrite 0 v) (setInputs rest s) rfl
    have hstep : step (setInputs (.hostWrite 0 v :: rest) s) = .next t := (step_of_cons rfl).trans ht
    have hwrite : commandWrite v (setInputs rest s) = .next t :=
      (step_hostWrite regOfNumber_zero hb rest).symm.trans hstep
    refine ⟨t, hstep, fun h => Bool.noConfusion h, fun _ hv => (lifecycle_of_illegal hwrite hv).2,
      fun _ hv => err_of_keyexpWrite (s := setInputs rest s) hwrite hb hv, fun _ hv => ?transform,
      fun _ hv => ?untested⟩
    case transform =>
      obtain ⟨p, rfl⟩ := startTransform_of_commandWrite hwrite hv
      exact startTransform_err p (setInputs rest s)
    case untested =>
      obtain hv | hv := hv
      · exact (lifecycle_of_keyexp56 hwrite hv).2
      · exact (lifecycle_of_drop hwrite hb hv).2

/-! ### No decoded turn stops the run -/

/-- A write that answers a next state is to one of the 32 registers. -/
theorem WriteEnd.number_le {n : Nat} {v : Word} {s t : State} (ht : WriteEnd n v s t) : n ≤ 31 := by
  cases ht <;> omega

/-- The engine takes exactly the turns it decodes. -/
theorem takeTurn_next_iff {engine : State → State} {turn : Turn} {s : State} :
    (∃ t, takeTurn engine turn s = .next t) ↔ turn.inPort = true := by
  refine ⟨fun ⟨t, ht⟩ => ?_, takeTurn_next engine s⟩
  cases takeTurn_cases ht with
  | read _ hn => exact decide_eq_true hn
  | write _ _ _ hwrite => exact decide_eq_true hwrite.number_le
  | engine | reset => rfl

/-- Settles O47: without a listed turn the step is `Complete`; a listed one is taken exactly when it is decoded. -/
theorem everyDecodedTurnHasANextState : Obligations.EveryDecodedTurnHasANextState := by
  intro s
  cases hs : s.inputs with
  | nil => simp [step_of_none hs]
  | cons turn rest =>
    rw [step_of_cons hs, takeTurn_next_iff]
    simp

end Sys2Proof.Machine
end

section
/-! Reset and the hazards of the register port (70_reset_and_hazards.md): what a reset turn leaves (R125, R126), and the
commands issued after a key expansion has consumed the key buffer (R132). -/

namespace Sys2Proof.Machine

/-! ### The key buffer after a key expansion -/

/-- A completed key expansion leaves an instance and no key: the buffer and `KEYLEN` are zero (R83). -/
theorem complete_consumes_key {s : State} {n : KeyLength} (hb : s.busy = true) (hp : s.pending = .kx n) :
    (complete s).valid = true ∧ (complete s).key = Vector.replicate 56 0#8 ∧ (complete s).keylen = 0#32 := by
  rw [complete_of_busy hb, applyPending_kx hp]
  exact ⟨rfl, rfl, rfl⟩

/-- Settles O23: `KEYLEN` is 0 after the completion, a length `KEYEXP` refuses; `KEYEXP56` makes no test and leaves the
56 zero bytes in the buffer. -/
theorem keyBufferIsConsumed : Obligations.KeyBufferIsConsumed := by
  intro s n rest hb hp
  obtain ⟨hvalid, hkey, hkeylen⟩ := complete_consumes_key hb hp
  refine ⟨_, step_engine rest s, hvalid, ?_⟩
  generalize complete s = t at hkey hkeylen ⊢
  have hlen : t.keylen.toNat < 4 ∨ 56 < t.keylen.toNat := .inl (by rw [hkeylen]; decide)
  have hzero (k : Nat) (h : k < 56) : t.key[k] = 0#8 := by rw [hkey, Vector.getElem_replicate]
  exact ⟨⟨_, execKeyexp_of_badLength (s := setInputs rest t) hlen, rfl, rfl⟩, ⟨_, rfl, rfl, hzero⟩⟩

/-! ### The reset event -/

/-- A reset turn takes the engine to its reset values, whatever it was doing (R125). -/
theorem step_reset (rest : List Turn) (s : State) :
    step (setInputs (.reset :: rest) s) = .next (resetEngine (setInputs rest s)) :=
  step_of_cons (s := setInputs (.reset :: rest) s) rfl

/-- Settles O2: the reset values are those of `resetEngine`, and an engine that is not busy has nothing to complete. -/
theorem resetEventFromAnyState : Obligations.ResetEventFromAnyState := fun s rest =>
  ⟨_, step_reset rest s, resetEngine_valid _, resetEngine_busy _, resetEngine_err _, resetEngine_pending _,
    resetEngine_seqPhase _, fun _ hk => Vector.getElem_replicate hk, resetEngine_keylen _, resetEngine_dinL _,
    resetEngine_dinR _, resetEngine_doutL _, resetEngine_doutR _,
    status_of_flags (resetEngine_err _) (resetEngine_valid _) (resetEngine_busy _),
    lifecycle_eq_empty.mpr ⟨resetEngine_busy _, resetEngine_valid _⟩, rfl, rfl, complete_of_idle (resetEngine_busy _)⟩

end Sys2Proof.Machine
end
